-- ==== Sys2Proof/Word.lean ====
section
/-! DEFINITION. The bit-vector widths the spec moves (spec/20_memory.md R65, spec/30_encoding.md R81). -/

namespace Sys2Proof

/-- A stream byte: an element of `CHUNK` and `BUF` (R65). -/
abbrev Byte := BitVec 8

/-- A 16-bit frame field or window entry, `WORD_W` of R7. -/
abbrev Word16 := BitVec 16

/-- A command word, and a word of the read port (R80, R31). -/
abbrev Word32 := BitVec 32

/-- A concentration in units of 0.1 µg/m³, as wide as `IMM20` and `AVG_X10` (R13, R81, R31). -/
abbrev Conc := BitVec 20

/-- An AQI score, as wide as `IMM10` and `AQI_VAL` (R81, R29). -/
abbrev Score := BitVec 10

/-- A 24-bit RGB value: red in bits 23..16, green in 15..8, blue in 7..0 (R178). -/
abbrev Color := BitVec 24

/-- A word address of the read port, `rd_addr[9:0]` (R31). -/
abbrev RegAddr := BitVec 10

end Sys2Proof
end

