-- ==== Sys2Proof/Syntax.lean ====
section
/-! DEFINITION. The commands (one constructor per row of the opcode table, R83) and the lines of
assembly text (R86, R87). -/

namespace Sys2Proof

/-- The commands of AQM-CORE (R83). Each operand has exactly the width its format gives it (R81, R82),
so no operand out of range can be written. -/
inductive Instr where
  /-- `NOP`, format N (R190) -/
  | nop
  /-- `INGEST`, format N (R102) -/
  | ingest
  /-- `DECODE`, format N (R120) -/
  | decode
  /-- `TICK`, format N (R131) -/
  | tick
  /-- `AVG_PUSH v`, format W (R150) -/
  | avgPush (v : Word16)
  /-- `AQI_MAP c`, format C (R173) -/
  | aqiMap (c : Conc)
  /-- `COLOR_MAP a`, format A (R177) -/
  | colorMap (a : Score)
  /-- `STAGE b`, format B (R100) -/
  | stage (b : Byte)
  /-- `RESET`, format N (R191) -/
  | reset
deriving DecidableEq, Repr

/-- The mnemonics of R83. -/
inductive Mnemonic where
  | nop
  | ingest
  | decode
  | tick
  | avgPush
  | aqiMap
  | colorMap
  | stage
  | reset
deriving DecidableEq, Repr

/-- The command formats of R81. -/
inductive Format where
  /-- no operand -/
  | n
  /-- a byte -/
  | b
  /-- a 16-bit value -/
  | w
  /-- a 10-bit AQI score -/
  | a
  /-- a 20-bit concentration -/
  | c
deriving DecidableEq, Repr

/-- The mnemonic of a command. -/
def Instr.mnemonic : Instr → Mnemonic
  | .nop => .nop
  | .ingest => .ingest
  | .decode => .decode
  | .tick => .tick
  | .avgPush _ => .avgPush
  | .aqiMap _ => .aqiMap
  | .colorMap _ => .colorMap
  | .stage _ => .stage
  | .reset => .reset

/-- The format of a mnemonic's command (R83). -/
def Mnemonic.format : Mnemonic → Format
  | .nop => .n
  | .ingest => .n
  | .decode => .n
  | .tick => .n
  | .avgPush => .w
  | .aqiMap => .c
  | .colorMap => .a
  | .stage => .b
  | .reset => .n

/-- How many bits of operand a format has (R81). -/
def Format.immBits : Format → Nat
  | .n => 0
  | .b => 8
  | .w => 16
  | .a => 10
  | .c => 20

/-- One line of assembly text (R86), the pseudo-instructions of R87 among them. Operands are the
numbers as written: whether they fit is checked by `AsmLine.wf`. -/
inductive AsmLine where
  /-- a blank line or a comment -/
  | comment
  /-- a mnemonic and, but for format N, one operand -/
  | command (m : Mnemonic) (operand : Option Nat)
  /-- the directive `.word w` -/
  | rawWord (w : Nat)
  /-- `STAGEN b1, ..., bk` -/
  | stageN (bs : List Nat)
  /-- `FEED b1, ..., bk` -/
  | feed (bs : List Nat)
  /-- `FEEDT b1, ..., bk` -/
  | feedT (bs : List Nat)
  /-- `PUSHN v1, ..., vk` -/
  | pushN (vs : List Nat)
deriving DecidableEq, Repr

end Sys2Proof
end

