-- ==== Sys2Proof/Decode.lean ====
section
/-! DEFINITION. The opcode map (R83), the decoder (R84), and after it the encoder (R81). -/

namespace Sys2Proof

/-- Why a word is no command (R85). -/
inductive IllegalWord where
  /-- `OP` in 0x8 to 0xE -/
  | reservedOpcode (op : BitVec 4)
  /-- a legal `OP` with a reserved bit that is not 0 -/
  | reservedBits (op : BitVec 4)
deriving DecidableEq, Repr

/-- `OP`, bits [31:28] of a command word (R80). -/
def opcodeOf (w : Word32) : BitVec 4 := w.extractLsb 31 28

/-- The command `i`, if the reserved bits `w[27:lo]` of its format are all 0 (R81, R85). -/
def requireZero (w : Word32) (lo : Nat) (i : Instr) : Except IllegalWord Instr :=
  if w.extractLsb 27 lo = 0 then .ok i else .error (.reservedBits (opcodeOf w))

/-- The decoder of R84: total, each word one command or illegal. -/
def decode (w : Word32) : Except IllegalWord Instr :=
  let op := opcodeOf w
  if op = 0x0#4 then requireZero w 0 .nop
  else if op = 0x1#4 then requireZero w 0 .ingest
  else if op = 0x2#4 then requireZero w 0 .decode
  else if op = 0x3#4 then requireZero w 0 .tick
  else if op = 0x4#4 then requireZero w 16 (.avgPush (w.extractLsb 15 0))
  else if op = 0x5#4 then requireZero w 20 (.aqiMap (w.extractLsb 19 0))
  else if op = 0x6#4 then requireZero w 10 (.colorMap (w.extractLsb 9 0))
  else if op = 0x7#4 then requireZero w 8 (.stage (w.extractLsb 7 0))
  else if op = 0xF#4 then requireZero w 0 .reset
  else .error (.reservedOpcode op)

/-- One row of R83's opcode map. -/
structure OpcodeRow where
  mnemonic : Mnemonic
  opcode : BitVec 4
  pattern : Word32
  mask : Word32
deriving DecidableEq, Repr

/-- The opcode map of R83, as its table prints it. -/
def opcodeMap : List OpcodeRow :=
  [⟨.nop, 0x0, 0x00000000, 0xFFFFFFFF⟩,
   ⟨.ingest, 0x1, 0x10000000, 0xFFFFFFFF⟩,
   ⟨.decode, 0x2, 0x20000000, 0xFFFFFFFF⟩,
   ⟨.tick, 0x3, 0x30000000, 0xFFFFFFFF⟩,
   ⟨.avgPush, 0x4, 0x40000000, 0xFFFF0000⟩,
   ⟨.aqiMap, 0x5, 0x50000000, 0xFFF00000⟩,
   ⟨.colorMap, 0x6, 0x60000000, 0xFFFFFC00⟩,
   ⟨.stage, 0x7, 0x70000000, 0xFFFFFF00⟩,
   ⟨.reset, 0xF, 0xF0000000, 0xFFFFFFFF⟩]

/-- "A word `w` selects the row whose `(w & mask) == match`" (R83). -/
def OpcodeRow.selectedBy (r : OpcodeRow) (w : Word32) : Bool := w &&& r.mask == r.pattern

/-- The word an instruction's `nbits` bits of opcode-table numbering make; the bits above are 0. -/
def tableWord (nbits w : Nat) : Word32 := BitVec.ofNat 32 (w % 2 ^ nbits)

/-- What the decoder reads from a word given as the opcode table numbers its bits. A command is one
32-bit word on a port (R80), so no byte order comes in. -/
def decodeTableWord (nbits w : Nat) : Option Instr := (decode (tableWord nbits w)).toOption

/-- The word of a command: the match of its row in the opcode map, with the operand, zero-extended, in
the low bits (R81 to R83). -/
def encode : Instr → Word32
  | .nop => 0x00000000#32
  | .ingest => 0x10000000#32
  | .decode => 0x20000000#32
  | .tick => 0x30000000#32
  | .avgPush v => 0x40000000#32 ||| v.setWidth 32
  | .aqiMap c => 0x50000000#32 ||| c.setWidth 32
  | .colorMap a => 0x60000000#32 ||| a.setWidth 32
  | .stage b => 0x70000000#32 ||| b.setWidth 32
  | .reset => 0xF0000000#32

end Sys2Proof
end

