-- ==== Sys2Proof/Config.lean ====
section
/-! DEFINITION. The constants of the block (R7), its build parameters (R8) with the defaults of R170
and R178, and the one value the spec leaves unspecified (R67). -/

namespace Sys2Proof

namespace Config

/-- `FRAME_LEN` (R7). -/
def frameLen : Nat := 32

/-- `HDR_A`, the first header byte (R7). -/
def hdrA : Byte := 0x42#8

/-- `HDR_B`, the second header byte (R7). -/
def hdrB : Byte := 0x4D#8

/-- `LEN_VALUE`, the only accepted value of the length field (R7). -/
def lenValue : Word16 := 28#16

/-- `NFIELDS` (R7). -/
def nFields : Nat := 13

/-- `BUF_CAP` (R7). -/
def bufCap : Nat := 200

/-- `CHUNK_MAX` (R7). -/
def chunkMax : Nat := 32

/-- The constant read at address 0x000, ASCII "AQMC" (R31). -/
def idWord : Word32 := 0x41514D43#32

/-- What the `k`-th read made while a command executes (`cmd_ready = 0`) returns.
The spec says "an unspecified value" (R67), so nothing here fixes it. -/
opaque busyReadData : Nat → RegAddr → Word32

end Config

/-- `WINDOW_N`: 20 or 30, and nothing else (R8). -/
inductive WindowSize where
  | twenty
  | thirty
deriving DecidableEq, Repr

/-- `WINDOW_N` as a number (R8). -/
def WindowSize.toNat : WindowSize → Nat
  | .twenty => 20
  | .thirty => 30

/-- The six AqiBand names, in the source's order (R15, R33). -/
inductive AqiBand where
  | good
  | moderate
  | unhealthy1
  | unhealthy2
  | unhealthy3
  | hazardous
deriving DecidableEq, Repr

/-- One value per band: the shape of `BAND_TABLE` and `COLOR_TABLE`, six rows (R8). -/
structure PerBand (α : Type) where
  good : α
  moderate : α
  unhealthy1 : α
  unhealthy2 : α
  unhealthy3 : α
  hazardous : α
deriving DecidableEq, Repr

/-- The row of one band. -/
def PerBand.get {α : Type} (t : PerBand α) : AqiBand → α
  | .good => t.good
  | .moderate => t.moderate
  | .unhealthy1 => t.unhealthy1
  | .unhealthy2 => t.unhealthy2
  | .unhealthy3 => t.unhealthy3
  | .hazardous => t.hazardous

/-- One row of `BAND_TABLE`: a closed concentration interval in deci-µg/m³ and a closed AQI interval.
A table whose row breaks `C_lo < C_hi` or `I_lo <= I_hi` "is refused" (R170, U10), so no such row can
be built. -/
structure BandRow where
  cLo : Nat
  cHi : Nat
  iLo : Nat
  iHi : Nat
  cOrdered : cLo < cHi
  iOrdered : iLo ≤ iHi
deriving DecidableEq, Repr

/-- The build parameters of one chip, fixed when it is built (R8). -/
structure Build where
  /-- `WINDOW_N` -/
  windowN : WindowSize
  /-- `REPORT_PARTIAL` -/
  reportPartial : Bool
  /-- `BAND_TABLE` -/
  bandTable : PerBand BandRow
  /-- `COLOR_TABLE` -/
  colorTable : PerBand Color
  /-- `COLOR_ERROR` -/
  colorError : Color
deriving DecidableEq, Repr

namespace Config

/-- The default `BAND_TABLE` of R170. -/
def defaultBandTable : PerBand BandRow where
  good := ⟨0, 120, 0, 50, by decide, by decide⟩
  moderate := ⟨121, 354, 51, 100, by decide, by decide⟩
  unhealthy1 := ⟨355, 554, 101, 150, by decide, by decide⟩
  unhealthy2 := ⟨555, 1504, 151, 200, by decide, by decide⟩
  unhealthy3 := ⟨1505, 2504, 201, 300, by decide, by decide⟩
  hazardous := ⟨2505, 5004, 301, 500, by decide, by decide⟩

/-- The default `COLOR_TABLE` of R178. -/
def defaultColorTable : PerBand Color where
  good := 0x00E400#24
  moderate := 0xFFFF00#24
  unhealthy1 := 0xFF7E00#24
  unhealthy2 := 0xFF0000#24
  unhealthy3 := 0x8F3F97#24
  hazardous := 0x7E0023#24

/-- A build with the default tables and the given window size and averaging mode (R8). -/
def defaultTablesBuild (n : WindowSize) (reportPartial : Bool) : Build where
  windowN := n
  reportPartial := reportPartial
  bandTable := defaultBandTable
  colorTable := defaultColorTable
  colorError := 0xFF0000#24

/-- DESIGN CHOICE (log entry 2): the build `State.reset` is made with.
The spec gives `WINDOW_N` and `REPORT_PARTIAL` no default (R8); this is the setting that
spec/95_test_vectors.md assumes where it names none. -/
def resetBuild : Build := defaultTablesBuild .twenty true

end Config

end Sys2Proof
end

