-- ==== Sys2Proof/Machine/State.lean ====
section
/-! DEFINITION. The state of AQM-CORE (R23 to R30), the host's side of its ports (R22), and the state
after reset (R35). -/

namespace Sys2Proof.Machine

/-- No command of AQM-CORE stops the block: "no command transfers control, saves state for a handler or
stops the block" (R202), and a model's step "is therefore total" (R193). So there is no fault. -/
inductive Fault where
deriving DecidableEq, Repr

/-- Why a step has no meaning. -/
inductive Refusal where
  /-- An instruction whose meaning is not written yet, raised by its arm of `exec` only.
  Safe: the model stops. No arm raises it now. -/
  | notModelled (mnemonic : String)
deriving DecidableEq, Repr

/-- The outcome codes of `ING_OUT` and `DEC_OUT` (R33), with the source's whole taxonomy (R128).
Codes 9 to 15 are never written (R33), and no value stands for them. -/
inductive OutcomeCode where
  | none
  | insufficient
  | ready
  | capOverrun
  | badHeader
  | badLength
  /-- reserved, never written (R128) -/
  | structural
  | checksum
  | ok
deriving DecidableEq, Repr

/-- The eight band codes of `BAND`, `MAP_BAND` and `MAP_CBAND` (R33). -/
inductive BandCode where
  /-- codes 0 to 5 -/
  | band (b : AqiBand)
  /-- code 6: no value computed since reset -/
  | none
  /-- code 7: the source's "distinguished `Error` band" -/
  | error
deriving DecidableEq, Repr

/-- The averager state codes (R33, R154). -/
inductive AvgState where
  | empty
  | filling
  | calculating
  | full
deriving DecidableEq, Repr

/-- `REC[0..12]`, the MeasurementRecord, each field 16 bits, named as R125 names it. -/
structure MeasurementRecord where
  /-- `REC[0]`, `PM10_STD` -/
  pm10Std : Word16
  /-- `REC[1]`, `PM25_STD` -/
  pm25Std : Word16
  /-- `REC[2]`, `PM100_STD` -/
  pm100Std : Word16
  /-- `REC[3]`, `PM10_ENV` -/
  pm10Env : Word16
  /-- `REC[4]`, `PM25_ENV`: the value averaged and mapped to AQI -/
  pm25Env : Word16
  /-- `REC[5]`, `PM100_ENV` -/
  pm100Env : Word16
  /-- `REC[6]`, `CNT_03` -/
  cnt03 : Word16
  /-- `REC[7]`, `CNT_05` -/
  cnt05 : Word16
  /-- `REC[8]`, `CNT_10` -/
  cnt10 : Word16
  /-- `REC[9]`, `CNT_25` -/
  cnt25 : Word16
  /-- `REC[10]`, `CNT_50` -/
  cnt50 : Word16
  /-- `REC[11]`, `CNT_100` -/
  cnt100 : Word16
  /-- `REC[12]`, `RESERVED` -/
  reserved : Word16
deriving DecidableEq, Repr

/-- The thirteen registers at zero (R35). -/
def MeasurementRecord.zero : MeasurementRecord := ⟨0, 0, 0, 0, 0, 0, 0, 0, 0, 0, 0, 0, 0⟩

/-- The RollingWindow's storage (R26). -/
structure Window where
  /-- `WIN_MEM[0..WINDOW_N-1]` -/
  mem : List Word16
  /-- `WIN_HEAD`: the storage index of the oldest entry -/
  head : Nat
  /-- `WIN_COUNT`: the number of entries -/
  count : Nat
deriving DecidableEq, Repr

/-- The pipeline's AQI registers (R29). -/
structure AqiRegs where
  /-- `AQI_VALID` -/
  valid : Bool
  /-- `AQI_VAL` -/
  val : Score
  /-- `AQI_ERR` -/
  err : Bool
  /-- `BAND` -/
  band : BandCode
  /-- `COLOR` -/
  color : Color
deriving DecidableEq, Repr

/-- The direct-lookup registers (R29). -/
structure LookupRegs where
  /-- `MAP_AQI_VAL` -/
  aqiVal : Score
  /-- `MAP_AQI_ERR` -/
  aqiErr : Bool
  /-- `MAP_BAND` -/
  band : BandCode
  /-- `MAP_CBAND` -/
  cband : BandCode
  /-- `MAP_COLOR` -/
  color : Color
deriving DecidableEq, Repr

/-- One thing the host does to the block's input ports (R22, R71). -/
inductive PortInput where
  /-- `cmd_valid = 1` with this `cmd_word`, held until the block accepts it -/
  | command (w : Word32)
  /-- `rst_n` goes to 0 for at least one clock and back to 1 (R220) -/
  | resetPulse
  /-- `rd_addr` is set to this address -/
  | readAddr (a : RegAddr)
deriving DecidableEq, Repr

/-- The state of the machine. -/
structure State where
  /-- the build parameters of this chip, constant (R8, R34) -/
  build : Build
  /-- `BUF`, the RawBuffer; its first element is the oldest byte (R23) -/
  buf : List Byte
  /-- `CHUNK`, the staged bytes (R24) -/
  chunk : List Byte
  /-- `REC[0..12]` (R25) -/
  record : MeasurementRecord
  /-- `WIN_MEM`, `WIN_HEAD`, `WIN_COUNT` (R26) -/
  window : Window
  /-- `ING_OUT` (R28) -/
  ingOut : OutcomeCode
  /-- `DEC_OUT` (R28) -/
  decOut : OutcomeCode
  /-- `ILL`, sticky (R28) -/
  ill : Bool
  /-- `STG_OVF`, sticky (R28) -/
  stgOvf : Bool
  /-- `AQI_VALID`, `AQI_VAL`, `AQI_ERR`, `BAND`, `COLOR` (R29) -/
  aqi : AqiRegs
  /-- the `MAP_` registers (R29) -/
  lookup : LookupRegs
  /-- The model's own field (log entry 1): what the host will do to the input ports, in order. The
  sequence of commands is the host's, not the block's (R21). -/
  inputs : List PortInput
  /-- The level of the input port `rd_addr` (R22), which only the host changes (log entry 1). -/
  rdAddr : RegAddr
deriving DecidableEq, Repr

/-- The empty window of a build after reset: `WIN_MEM[*] = 0`, `WIN_HEAD = 0`, `WIN_COUNT = 0` (R35). -/
def Window.reset (b : Build) : Window := ⟨List.replicate b.windowN.toNat 0, 0, 0⟩

/-- A chip of build `b` after reset, every state element at the value of R35, with its input ports
idle. -/
def State.resetOf (b : Build) : State where
  build := b
  buf := []
  chunk := []
  record := MeasurementRecord.zero
  window := Window.reset b
  ingOut := .none
  decOut := .none
  ill := false
  stgOvf := false
  aqi := { valid := false, val := 0, err := false, band := .none, color := 0 }
  lookup := { aqiVal := 0, aqiErr := false, band := .none, cband := .none, color := 0 }
  inputs := []
  rdAddr := 0

/-- The machine right after reset (R35, R220). Which build it is: DESIGN CHOICE, log entry 2. -/
def State.reset : State := State.resetOf Config.resetBuild

end Sys2Proof.Machine
end

