-- ==== Sys2Proof/Machine/Flags.lean ====
section
/-! DEFINITION. The flag and code registers as numbers: the code tables (R33) and the STATUS word (R32). -/

namespace Sys2Proof.Machine

/-- The 4-bit outcome code (R33). -/
def OutcomeCode.code : OutcomeCode → BitVec 4
  | .none => 0
  | .insufficient => 1
  | .ready => 2
  | .capOverrun => 3
  | .badHeader => 4
  | .badLength => 5
  | .structural => 6
  | .checksum => 7
  | .ok => 8

/-- The number of a band, 0 to 5 in the source's order (R33). -/
def bandNumber : AqiBand → BitVec 3
  | .good => 0
  | .moderate => 1
  | .unhealthy1 => 2
  | .unhealthy2 => 3
  | .unhealthy3 => 4
  | .hazardous => 5

/-- The 3-bit band code (R33). -/
def BandCode.code : BandCode → BitVec 3
  | .band b => bandNumber b
  | .none => 6
  | .error => 7

/-- The 2-bit averager state code (R33). -/
def AvgState.code : AvgState → BitVec 2
  | .empty => 0
  | .filling => 1
  | .calculating => 2
  | .full => 3

/-- One bit as a 32-bit word. -/
def flagWord (b : Bool) : Word32 := (BitVec.ofBool b).setWidth 32

/-- `ILL | (STG_OVF << 1) | (AQI_VALID << 2)` (R32, R194). -/
def statusWord (s : State) : Word32 :=
  flagWord s.ill ||| (flagWord s.stgOvf <<< 1) ||| (flagWord s.aqi.valid <<< 2)

end Sys2Proof.Machine
end

