-- ==== Sys2Proof/Machine/Update.lean ====
section
/-! DEFINITION. The register writes `NAME <- v` (R12), one per state element: "the only writes to state
are the effects of commands" (R31). -/

namespace Sys2Proof.Machine

/-- `BUF <- bs` -/
def State.setBuf (s : State) (bs : List Byte) : State := { s with buf := bs }

/-- `CHUNK <- bs` -/
def State.setChunk (s : State) (bs : List Byte) : State := { s with chunk := bs }

/-- `REC[0..12] <- r`, all thirteen together (R25) -/
def State.setRecord (s : State) (r : MeasurementRecord) : State := { s with record := r }

/-- The window's storage takes the value `w` (R26). -/
def State.setWindow (s : State) (w : Window) : State := { s with window := w }

/-- `ING_OUT <- c` -/
def State.setIngOut (s : State) (c : OutcomeCode) : State := { s with ingOut := c }

/-- `DEC_OUT <- c` -/
def State.setDecOut (s : State) (c : OutcomeCode) : State := { s with decOut := c }

/-- `ILL <- 1` (R192) -/
def State.setIll (s : State) : State := { s with ill := true }

/-- `STG_OVF <- 1` (R100) -/
def State.setStgOvf (s : State) : State := { s with stgOvf := true }

/-- The pipeline's AQI registers take the values `r` (R176). -/
def State.setAqi (s : State) (r : AqiRegs) : State := { s with aqi := r }

/-- The direct-lookup registers take the values `r` (R173, R177). -/
def State.setLookup (s : State) (r : LookupRegs) : State := { s with lookup := r }

/-- What the host will do to the input ports is `ps` (log entry 1). -/
def State.setInputs (s : State) (ps : List PortInput) : State := { s with inputs := ps }

/-- The host sets `rd_addr` (R22). -/
def State.setRdAddr (s : State) (a : RegAddr) : State := { s with rdAddr := a }

end Sys2Proof.Machine
end

