-- ==== Sys2Proof/Machine/Window.lean ====
section
/-! DEFINITION. The RollingAverager: the circular window (R26), its push (R151), and the values derived
from it (R30, R153 to R155). -/

namespace Sys2Proof.Machine

/-- `WINDOW_N` of a build, as a number (R8). -/
def windowLen (b : Build) : Nat := b.windowN.toNat

/-- `WIN`, the logical contents, oldest first:
`[WIN_MEM[(WIN_HEAD + i) mod WINDOW_N] for i in 0 .. WIN_COUNT - 1]` (R26). -/
def Window.contents (n : Nat) (w : Window) : List Word16 :=
  (List.range w.count).map fun i => w.mem.getD ((w.head + i) % n) 0

/-- `win_push(v)` on a window of `n` entries (R151). -/
def Window.push (n : Nat) (w : Window) (v : Word16) : Window :=
  if w.count < n then
    { w with mem := w.mem.set ((w.head + w.count) % n) v, count := w.count + 1 }
  else
    { w with mem := w.mem.set w.head v, head := (w.head + 1) % n }

/-- `AVG_SUM`, the exact integer sum of `WIN` (R153). -/
def windowSum (b : Build) (w : Window) : Nat := ((w.contents (windowLen b)).map BitVec.toNat).sum

/-- `AVG_STATE` (R154). -/
def averagerState (b : Build) (w : Window) : AvgState :=
  if w.count = 0 then .empty
  else if w.count < windowLen b then if b.reportPartial then .filling else .calculating
  else .full

/-- An average is reported: `AVG_STATE in {FILLING, FULL}` (R155, R176). -/
def AvgState.reported : AvgState → Bool
  | .empty => false
  | .filling => true
  | .calculating => false
  | .full => true

/-- `AVG_X10` (R155): the truncated mean in deci-µg/m³, or 0 where no average is reported. -/
def averageX10 (b : Build) (w : Window) : Conc :=
  if (averagerState b w).reported then BitVec.ofNat 20 (10 * windowSum b w / w.count) else 0

/-- `WIN` of the state (R26). -/
def win (s : State) : List Word16 := s.window.contents (windowLen s.build)

/-- `AVG_COUNT = WIN_COUNT` (R30). -/
def avgCount (s : State) : Nat := s.window.count

/-- `AVG_SUM` of the state (R30). -/
def avgSum (s : State) : Nat := windowSum s.build s.window

/-- `AVG_STATE` of the state (R30). -/
def avgState (s : State) : AvgState := averagerState s.build s.window

/-- `AVG_X10` of the state (R30). -/
def avgX10 (s : State) : Conc := averageX10 s.build s.window

/-- `win_push(v)` on the state (R151). -/
def winPush (s : State) (v : Word16) : State :=
  s.setWindow (s.window.push (windowLen s.build) v)

end Sys2Proof.Machine
end

