-- ==== Sys2Proof/Machine/Mapper.lean ====
section
/-! DEFINITION. The AqiMapper: band lookups (R171, R175), interpolation (R172), colours (R175), and the
pipeline's AQI update (R176). -/

namespace Sys2Proof.Machine

/-- The bands in table order (R170). -/
def allBands : List AqiBand :=
  [.good, .moderate, .unhealthy1, .unhealthy2, .unhealthy3, .hazardous]

/-- The result of a scan as a band code: ERROR where no row matched (R171, R175). -/
def bandCodeOf : Option AqiBand → BandCode
  | some k => .band k
  | none => .error

/-- The row's closed concentration interval contains `c` (R171). -/
def rowHoldsConc (r : BandRow) (c : Nat) : Bool := decide (r.cLo ≤ c) && decide (c ≤ r.cHi)

/-- The row's closed AQI interval contains `a` (R175). -/
def rowHoldsScore (r : BandRow) (a : Nat) : Bool := decide (r.iLo ≤ a) && decide (a ≤ r.iHi)

/-- The scan of `band_of(c)`: the first row, in table order, that contains `c` (R171). -/
def findByConc (t : PerBand BandRow) (c : Nat) : Option AqiBand :=
  allBands.find? fun k => rowHoldsConc (t.get k) c

/-- The scan of `band_of_aqi(a)` (R175). -/
def findByScore (t : PerBand BandRow) (a : Nat) : Option AqiBand :=
  allBands.find? fun k => rowHoldsScore (t.get k) a

/-- `band_of(c)` (R171). -/
def bandOf (b : Build) (c : Conc) : BandCode := bandCodeOf (findByConc b.bandTable c.toNat)

/-- `Il + ((Ih - Il) * (c - Cl)) div (Ch - Cl)` (R172). -/
def interpolate (r : BandRow) (c : Nat) : Nat :=
  r.iLo + (r.iHi - r.iLo) * (c - r.cLo) / (r.cHi - r.cLo)

/-- `aqi_of(c)`: the AQI value and the band code (R172). -/
def aqiOf (b : Build) (c : Conc) : Score × BandCode :=
  match findByConc b.bandTable c.toNat with
  | none => (0, .error)
  | some k => (BitVec.ofNat 10 (interpolate (b.bandTable.get k) c.toNat), .band k)

/-- `band_of_aqi(a)` (R175). -/
def bandOfAqi (b : Build) (a : Score) : BandCode := bandCodeOf (findByScore b.bandTable a.toNat)

/-- `color_of(a)` (R175). -/
def colorOf (b : Build) (a : Score) : Color :=
  match findByScore b.bandTable a.toNat with
  | none => b.colorError
  | some k => b.colorTable.get k

/-- What `aqi_update` writes when the reported average is `c` (R176). -/
def aqiRegsFor (b : Build) (c : Conc) : AqiRegs :=
  let r := aqiOf b c
  { valid := true
    val := r.1
    err := r.2 == .error
    band := r.2
    color := if r.2 = .error then b.colorError else colorOf b r.1 }

/-- The pipeline's registers after `aqi_update()`: new ones from the reported average, or the old ones
where none is reported (R176). -/
def aqiAfter (b : Build) (w : Window) (old : AqiRegs) : AqiRegs :=
  if (averagerState b w).reported then aqiRegsFor b (averageX10 b w) else old

/-- `aqi_update()` (R176). -/
def aqiUpdate (s : State) : State := s.setAqi (aqiAfter s.build s.window s.aqi)

end Sys2Proof.Machine
end

