-- ==== Sys2Proof/Machine/Operands.lean ====
section
/-! DEFINITION. What a command reads: big-endian pairs (R12, R62), the bytes, fields and byte sum of a
candidate window (R124 to R126), and the numbering of the record's fields (R25, R125). -/

namespace Sys2Proof.Machine

/-- `be16(h, l) = h * 256 + l` (R12). -/
def be16 (h l : Byte) : Word16 := h ++ l

/-- `W[k]`, the byte at offset `k` of a window (R12). -/
def byteAt (w : List Byte) (k : Nat) : Byte := w.getD k 0

/-- The field at frame offset `k`: `be16(W[k], W[k+1])` (R62). -/
def fieldAt (w : List Byte) (k : Nat) : Word16 := be16 (byteAt w k) (byteAt w (k + 1))

/-- The unsigned sum of `W[0]` to `W[29]` in the 16-bit accumulator of R120 and R126. -/
def byteSum (w : List Byte) : Word16 := ((w.take 30).map fun b => b.setWidth 16).sum

/-- The record whose field `i` is `f i`. -/
def recordOf (f : Nat → Word16) : MeasurementRecord :=
  ⟨f 0, f 1, f 2, f 3, f 4, f 5, f 6, f 7, f 8, f 9, f 10, f 11, f 12⟩

/-- Field `i` of the record is `be16(W[4 + 2i], W[5 + 2i])` (R124). -/
def frameRecord (w : List Byte) : MeasurementRecord := recordOf fun i => fieldAt w (4 + 2 * i)

/-- `REC[0..12]` in index order (R125). -/
def MeasurementRecord.toList (r : MeasurementRecord) : List Word16 :=
  [r.pm10Std, r.pm25Std, r.pm100Std, r.pm10Env, r.pm25Env, r.pm100Env, r.cnt03, r.cnt05, r.cnt10,
   r.cnt25, r.cnt50, r.cnt100, r.reserved]

/-- `REC[i]` (R25). -/
def MeasurementRecord.get (r : MeasurementRecord) (i : Nat) : Word16 := r.toList.getD i 0

/-- The number a big-endian pair at offset `k` stands for, over the integers (R11, R12). -/
def pairValue (w : List Byte) (k : Nat) : Nat := 256 * (byteAt w k).toNat + (byteAt w (k + 1)).toNat

/-- The exact sum of `W[0]` to `W[29]`, over the integers (R11, R126). -/
def exactSum (w : List Byte) : Nat := ((w.take 30).map BitVec.toNat).sum

/-- A well-formed frame: "header `42 4D`, length `00 1C`, checksum equal to the byte sum" (R132). -/
abbrev IsFrame (w : List Byte) : Prop :=
  w.length = 32 ∧ byteAt w 0 = 0x42#8 ∧ byteAt w 1 = 0x4D#8 ∧ byteAt w 2 = 0x00#8 ∧
    byteAt w 3 = 0x1C#8 ∧ exactSum w = pairValue w 30

end Sys2Proof.Machine
end

