-- ==== Sys2Proof/Machine/Ops.lean ====
section
/-! DEFINITION. The shared operations: the storage primitives of R66, the ingest and the decode phase
(R102, R120), the path of an accepted reading (R127, R150), and reset (R220). AQM-CORE has no trap
(R202, R205), so no exception entry stands here: a failure is an outcome code and a buffer action. -/

namespace Sys2Proof.Machine

/-- `align()` on a byte sequence: discard leading bytes until it is empty or begins with 0x42 (R66, R103). -/
def alignBytes (bs : List Byte) : List Byte := bs.dropWhile fun b => b != Config.hdrA

/-- `append(s)` (R66) -/
def State.append (s : State) (bs : List Byte) : State := s.setBuf (s.buf ++ bs)

/-- `align()` (R66) -/
def State.align (s : State) : State := s.setBuf (alignBytes s.buf)

/-- `drop(k)` (R66) -/
def State.dropFront (s : State) (k : Nat) : State := s.setBuf (s.buf.drop k)

/-- `flush()` (R66) -/
def State.flush (s : State) : State := s.setBuf []

/-- The 32-byte read-only snapshot `BUF[0:32]`, the primitive R66 calls prefix. -/
def State.snapshot (s : State) : List Byte := s.buf.take Config.frameLen

/-- `MAP_AQI_VAL`, `MAP_AQI_ERR` and `MAP_BAND` take the result of an AQI lookup (R173). -/
def State.setAqiLookup (s : State) (r : Score × BandCode) : State :=
  s.setLookup { s.lookup with aqiVal := r.1, aqiErr := r.2 == .error, band := r.2 }

/-- `MAP_CBAND` and `MAP_COLOR` take the result of a colour lookup (R177). -/
def State.setColorLookup (s : State) (k : BandCode) (c : Color) : State :=
  s.setLookup { s.lookup with cband := k, color := c }

/-- The effect of STAGE (R100). -/
def stageByte (s : State) (b : Byte) : State :=
  if s.chunk.length < Config.chunkMax then s.setChunk (s.chunk ++ [b]) else s.setStgOvf

/-- The capacity check and the outcome of an ingest, on the aligned buffer (R104, R204 (b)). -/
def capCheck (s : State) : State :=
  if s.buf.length > Config.bufCap then s.flush.setIngOut .capOverrun
  else if s.buf.length < Config.frameLen then s.setIngOut .insufficient
  else s.setIngOut .ready

/-- The effect of INGEST (R102). -/
def ingestPhase (s : State) : State := capCheck ((s.append s.chunk).setChunk []).align

/-- A reading enters the pipeline: `win_push(v)`, then `aqi_update()` (R127, R150). -/
def acceptReading (s : State) (v : Word16) : State := aqiUpdate (winPush s v)

/-- Step 5 of DECODE: the window `w` is accepted (R120, R127). -/
def acceptFrame (s : State) (w : List Byte) : State :=
  acceptReading (((s.dropFront Config.frameLen).setRecord (frameRecord w)).setDecOut .ok)
    (frameRecord w).pm25Env

/-- Steps 1 to 5 of DECODE on the window `w` (R120, R129). -/
def checkFrame (s : State) (w : List Byte) : State :=
  if byteAt w 1 ≠ Config.hdrB then (s.dropFront 1).setDecOut .badHeader
  else if fieldAt w 2 ≠ Config.lenValue then s.flush.setDecOut .badLength
  else if byteSum w ≠ fieldAt w 30 then s.flush.setDecOut .checksum
  else acceptFrame s w

/-- DECODE after its alignment: the availability test, then the checks on a snapshot (R120, R128). -/
def decodeAligned (s : State) : State :=
  if s.buf.length < Config.frameLen then s.setDecOut .insufficient else checkFrame s s.snapshot

/-- The effect of DECODE (R120, R130). -/
def decodePhase (s : State) : State := decodeAligned s.align

/-- "Every state element <- its reset value" (R191, R220): the build is not changed, and the host's side
of the ports is not the block's. -/
def State.restart (s : State) : State :=
  ((State.resetOf s.build).setInputs s.inputs).setRdAddr s.rdAddr

end Sys2Proof.Machine
end

