-- ==== Sys2Proof/Machine/AqiMap.lean ====
section
/-! DEFINITION. The AQI mapper's commands: AQI_MAP (R173) and COLOR_MAP (R177). -/

namespace Sys2Proof.Machine

/-- AQI_MAP (R173). -/
def execAqiMap (c : Conc) (s : State) : Host.Outcome State Fault Refusal :=
  .next (s.setAqiLookup (aqiOf s.build c))

/-- COLOR_MAP (R177). -/
def execColorMap (a : Score) (s : State) : Host.Outcome State Fault Refusal :=
  .next (s.setColorLookup (bandOfAqi s.build a) (colorOf s.build a))

end Sys2Proof.Machine
end

