-- ==== Sys2Proof/Machine/Average.lean ====
section
/-! DEFINITION. The rolling averager's command: AVG_PUSH (R150). -/

namespace Sys2Proof.Machine

/-- AVG_PUSH (R150). -/
def execAvgPush (v : Word16) (s : State) : Host.Outcome State Fault Refusal :=
  .next (acceptReading s v)

end Sys2Proof.Machine
end

