-- ==== Sys2Proof/Machine/Control.lean ====
section
/-! DEFINITION. The control commands NOP (R190) and RESET (R191), and the effect of an illegal word
(R192). -/

namespace Sys2Proof.Machine

/-- NOP (R190). -/
def execNop (s : State) : Host.Outcome State Fault Refusal := .next s

/-- RESET (R191). -/
def execReset (s : State) : Host.Outcome State Fault Refusal := .next s.restart

/-- An illegal word: `ILL <- 1`, nothing else (R192). -/
def execIllegal (s : State) : Host.Outcome State Fault Refusal := .next s.setIll

end Sys2Proof.Machine
end

