-- ==== Sys2Proof/Machine/FrameDecode.lean ====
section
/-! DEFINITION. The frame decoder's commands: DECODE (R120) and TICK (R131). -/

namespace Sys2Proof.Machine

/-- DECODE (R120). -/
def execDecode (s : State) : Host.Outcome State Fault Refusal := .next (decodePhase s)

/-- TICK: INGEST, then DECODE (R131). -/
def execTick (s : State) : Host.Outcome State Fault Refusal := .next (decodePhase (ingestPhase s))

end Sys2Proof.Machine
end

