-- ==== Sys2Proof/Machine/Sync.lean ====
section
/-! DEFINITION. The frame synchronizer's commands: STAGE (R100) and INGEST (R102). -/

namespace Sys2Proof.Machine

/-- STAGE (R100). -/
def execStage (b : Byte) (s : State) : Host.Outcome State Fault Refusal := .next (stageByte s b)

/-- INGEST (R102). -/
def execIngest (s : State) : Host.Outcome State Fault Refusal := .next (ingestPhase s)

end Sys2Proof.Machine
end

