-- ==== Sys2Proof/Machine/Dispatch.lean ====
section
/-! DEFINITION. The meaning of each command, one arm per constructor. -/

namespace Sys2Proof.Machine

def exec (i : Instr) (s : State) : Host.Outcome State Fault Refusal :=
  match i with
  | .nop => Sys2Proof.Machine.execNop s
  | .ingest => Sys2Proof.Machine.execIngest s
  | .decode => Sys2Proof.Machine.execDecode s
  | .tick => Sys2Proof.Machine.execTick s
  | .avgPush v => Sys2Proof.Machine.execAvgPush v s
  | .aqiMap c => Sys2Proof.Machine.execAqiMap c s
  | .colorMap a => Sys2Proof.Machine.execColorMap a s
  | .stage b => Sys2Proof.Machine.execStage b s
  | .reset => Sys2Proof.Machine.execReset s

end Sys2Proof.Machine
end

