-- ==== Sys2Proof/Machine/Accept.lean ====
section
/-! DEFINITION. Accepting a command word (R193), and serving what the host does to the input ports
(R22, R71, R220). -/

namespace Sys2Proof.Machine

/-- The whole effect of an accepted word (R193): its command's, or an illegal word's (R85, R192). -/
def acceptWord (w : Word32) (s : State) : Host.Outcome State Fault Refusal :=
  match decode w with
  | .ok i => exec i s
  | .error _ => execIllegal s

/-- The effect of one thing the host does (R71). Setting `rd_addr` changes nothing of the block (R31). -/
def serve (p : PortInput) (s : State) : Host.Outcome State Fault Refusal :=
  match p with
  | .command w => acceptWord w s
  | .resetPulse => .next s.restart
  | .readAddr a => .next (s.setRdAddr a)

/-- The host presents a word before all else it was going to do. -/
def State.present (s : State) (w : Word32) : State := s.setInputs (.command w :: s.inputs)

end Sys2Proof.Machine
end

