-- ==== Sys2Proof/Machine/Step.lean ====
section
/-! DEFINITION. One step: the block serves the next thing the host does. "One command is one step"
(R14, R193). -/

namespace Sys2Proof.Machine

/-- One step. Where the host does nothing, the block "holds its state" (R211). -/
def step (s : State) : Host.Outcome State Fault Refusal :=
  match s.inputs with
  | [] => .next s
  | p :: rest => serve p (s.setInputs rest)

/-- The state with a command word, numbered as the opcode table numbers it, presented on the command
port, so that the next step accepts exactly that word. -/
def State.withFetchWord (s : State) (nbits w : Nat) : State := s.present (tableWord nbits w)

end Sys2Proof.Machine
end

