-- ==== Sys2Proof/WellFormed.lean ====
section
/-! DEFINITION. What is well formed: an assembly line (R82, R86, R87) and a choice of build parameters
(R8, R170, U9, U10). A command (`Instr`) is well formed by its operands' types (R81, R82). -/

namespace Sys2Proof

/-- The operand is there exactly when the format has one, and is in the format's range (R82, R86). -/
def Format.operandOk (f : Format) : Option Nat → Bool
  | none => f == .n
  | some v => f != .n && decide (v < 2 ^ f.immBits)

/-- Every number of the list is a byte. -/
def allBytes (bs : List Nat) : Bool := bs.all fun b => decide (b < 2 ^ 8)

/-- The lines an assembler accepts: "An operand outside its format's range (rule R82) is an assembly
error" (R86); the counts of listed bytes are those of R87's table. -/
def AsmLine.wf : AsmLine → Bool
  | .comment => true
  | .command m operand => m.format.operandOk operand
  | .rawWord w => decide (w < 2 ^ 32)
  | .stageN bs => decide (1 ≤ bs.length) && allBytes bs
  | .feed bs => decide (bs.length ≤ 32) && allBytes bs
  | .feedT bs => decide (bs.length ≤ 32) && allBytes bs
  | .pushN vs => decide (1 ≤ vs.length) && vs.all fun v => decide (v < 2 ^ 16)

/-- A row of `BAND_TABLE` as someone ordering a build would write it, before any check. -/
structure RowArgs where
  cLo : Nat
  cHi : Nat
  iLo : Nat
  iHi : Nat
deriving DecidableEq, Repr

/-- The build parameters as arguments, before any check (R8). -/
structure BuildArgs where
  windowN : Nat
  reportPartial : Nat
  bandTable : List RowArgs
  colorTable : List Nat
  colorError : Nat
deriving DecidableEq, Repr

/-- The row, or nothing where R170 refuses it. -/
def RowArgs.row (r : RowArgs) : Option BandRow :=
  if hc : r.cLo < r.cHi then
    if hi : r.iLo ≤ r.iHi then some ⟨r.cLo, r.cHi, r.iLo, r.iHi, hc, hi⟩ else none
  else none

/-- `WINDOW_N` from a number: "Values outside {20, 30} ... are refused" (U9). -/
def windowSizeOf : Nat → Option WindowSize
  | 20 => some .twenty
  | 30 => some .thirty
  | _ => none

/-- `REPORT_PARTIAL` from a number (U9). -/
def reportPartialOf : Nat → Option Bool
  | 0 => some false
  | 1 => some true
  | _ => none

/-- A 24-bit RGB value from a number (R8). -/
def colorFrom (c : Nat) : Option Color :=
  if c < 2 ^ 24 then some (BitVec.ofNat 24 c) else none

/-- Exactly six entries, one per band in the source's order (R8). -/
def PerBand.ofList {α : Type} : List α → Option (PerBand α)
  | [a, b, c, d, e, f] => some ⟨a, b, c, d, e, f⟩
  | _ => none

/-- The build these arguments name, or nothing where one of them is outside its legal values. -/
def BuildArgs.build (p : BuildArgs) : Option Build := do
  let n ← windowSizeOf p.windowN
  let rp ← reportPartialOf p.reportPartial
  let rows ← p.bandTable.mapM RowArgs.row
  let table ← PerBand.ofList rows
  let colors ← p.colorTable.mapM colorFrom
  let colorTable ← PerBand.ofList colors
  let colorError ← colorFrom p.colorError
  pure ⟨n, rp, table, colorTable, colorError⟩

/-- The arguments are legal (R8, R170). -/
def BuildArgs.wf (p : BuildArgs) : Bool := p.build.isSome

end Sys2Proof
end

