-- ==== Sys2Proof/Machine/Asm.lean ====
section
/-! DEFINITION. The assembler: the text of a line (R86), and the words a line stands for, the
pseudo-instructions' expansions among them (R87). Text is a list of characters. -/

namespace Sys2Proof.Machine

/-- The mnemonic as it is written (R86). -/
def mnemonicText : Mnemonic → List Char
  | .nop => ['N', 'O', 'P']
  | .ingest => ['I', 'N', 'G', 'E', 'S', 'T']
  | .decode => ['D', 'E', 'C', 'O', 'D', 'E']
  | .tick => ['T', 'I', 'C', 'K']
  | .avgPush => ['A', 'V', 'G', '_', 'P', 'U', 'S', 'H']
  | .aqiMap => ['A', 'Q', 'I', '_', 'M', 'A', 'P']
  | .colorMap => ['C', 'O', 'L', 'O', 'R', '_', 'M', 'A', 'P']
  | .stage => ['S', 'T', 'A', 'G', 'E']
  | .reset => ['R', 'E', 'S', 'E', 'T']

/-- The mnemonics of R83, in opcode order. -/
def allMnemonics : List Mnemonic :=
  [.nop, .ingest, .decode, .tick, .avgPush, .aqiMap, .colorMap, .stage, .reset]

/-- A blank. -/
def isBlank (c : Char) : Bool := c == ' ' || c == '\t'

/-- Without blanks at either end. -/
def trimBlanks (cs : List Char) : List Char :=
  ((cs.dropWhile isBlank).reverse.dropWhile isBlank).reverse

/-- The value of a digit; hexadecimal digits in either case (log entry 8). -/
def digitValue (c : Char) : Option Nat :=
  let n := c.toNat
  if 48 ≤ n ∧ n ≤ 57 then some (n - 48)
  else if 65 ≤ n ∧ n ≤ 70 then some (n - 55)
  else if 97 ≤ n ∧ n ≤ 102 then some (n - 87)
  else none

/-- The digits' number, onto what was read before them. -/
def readDigits (base : Nat) : Nat → List Char → Option Nat
  | acc, [] => some acc
  | acc, c :: cs =>
    match digitValue c with
    | some d => if d < base then readDigits base (acc * base + d) cs else none
    | none => none

/-- "An unsigned integer in decimal or in hexadecimal with the prefix `0x`" (R86). -/
def readNumber : List Char → Option Nat
  | [] => none
  | '0' :: 'x' :: [] => none
  | '0' :: 'x' :: ds => readDigits 16 0 ds
  | ds => readDigits 10 0 ds

/-- The comma-separated parts. -/
def splitCommas : List Char → List (List Char)
  | [] => [[]]
  | c :: cs =>
    match splitCommas cs with
    | [] => [[c]]
    | p :: ps => if c = ',' then [] :: p :: ps else (c :: p) :: ps

/-- The operand list of a pseudo-instruction: none, or numbers between commas (R87). -/
def readNumbers (cs : List Char) : Option (List Nat) :=
  if cs = [] then some [] else (splitCommas cs).mapM fun p => readNumber (trimBlanks p)

/-- The operand of a command: none, or one number (R86). -/
def readOperand (cs : List Char) : Option (Option Nat) :=
  if cs = [] then some none else (readNumber cs).map some

/-- One line of text (R86): what follows `;` is a comment. -/
def readLine (text : List Char) : Option AsmLine :=
  let body := trimBlanks (text.takeWhile (· != ';'))
  let name := body.takeWhile fun c => !isBlank c
  let rest := trimBlanks (body.dropWhile fun c => !isBlank c)
  if name = [] then some .comment
  else if name = ['.', 'w', 'o', 'r', 'd'] then (readNumber rest).map .rawWord
  else if name = ['S', 'T', 'A', 'G', 'E', 'N'] then (readNumbers rest).map .stageN
  else if name = ['F', 'E', 'E', 'D'] then (readNumbers rest).map .feed
  else if name = ['F', 'E', 'E', 'D', 'T'] then (readNumbers rest).map .feedT
  else if name = ['P', 'U', 'S', 'H', 'N'] then (readNumbers rest).map .pushN
  else
    match allMnemonics.find? fun m => mnemonicText m == name with
    | some m => (readOperand rest).map (.command m)
    | none => none

/-- The command of a mnemonic and the operand's value. -/
def commandOf (m : Mnemonic) (v : Nat) : Instr :=
  match m with
  | .nop => .nop
  | .ingest => .ingest
  | .decode => .decode
  | .tick => .tick
  | .avgPush => .avgPush (BitVec.ofNat 16 v)
  | .aqiMap => .aqiMap (BitVec.ofNat 20 v)
  | .colorMap => .colorMap (BitVec.ofNat 10 v)
  | .stage => .stage (BitVec.ofNat 8 v)
  | .reset => .reset

/-- `STAGE b1 ... STAGE bk` (R87). -/
def stageCommands (bs : List Nat) : List Instr := bs.map fun b => commandOf .stage b

/-- The commands a line expands to (R87); `.word` is no command. -/
def lineCommands : AsmLine → List Instr
  | .comment => []
  | .command m operand => [commandOf m (operand.getD 0)]
  | .rawWord _ => []
  | .stageN bs => stageCommands bs
  | .feed bs => stageCommands bs ++ [.ingest]
  | .feedT bs => stageCommands bs ++ [.tick]
  | .pushN vs => vs.map fun v => commandOf .avgPush v

/-- The words a line emits. -/
def lineWords (l : AsmLine) : List Word32 :=
  match l with
  | .rawWord w => [BitVec.ofNat 32 w]
  | l => (lineCommands l).map encode

/-- The words of a line, or nothing where the line is an assembly error (R86, R87). -/
def assemble (l : AsmLine) : Option (List Word32) := if l.wf then some (lineWords l) else none

/-- The words of a whole text, line by line, or nothing where a line is an error (R86). -/
def assembleText : List (List Char) → Option (List Word32)
  | [] => some []
  | line :: lines =>
    match readLine line with
    | none => none
    | some l =>
      match assemble l, assembleText lines with
      | some ws, some rest => some (ws ++ rest)
      | _, _ => none

end Sys2Proof.Machine
end

