-- ==== Sys2Proof/Machine/Ports.lean ====
section
/-! DEFINITION. The ports (R22) and the read port (R31, R194, R195). -/

namespace Sys2Proof.Machine

/-- `RegRead(a)` (R194), the register map of R31: each field cut to its width and zero-extended. -/
def regRead (s : State) (a : RegAddr) : Word32 :=
  let n := a.toNat
  if n = 0x000 then Config.idWord
  else if n = 0x001 then
    BitVec.ofNat 32 (windowLen s.build) ||| (flagWord s.build.reportPartial <<< 8)
      ||| (BitVec.ofNat 32 Config.bufCap <<< 16) ||| (BitVec.ofNat 32 Config.frameLen <<< 24)
  else if n = 0x002 then statusWord s
  else if n = 0x003 then s.ingOut.code.setWidth 32
  else if n = 0x004 then s.decOut.code.setWidth 32
  else if n = 0x005 then (BitVec.ofNat 8 s.buf.length).setWidth 32
  else if n = 0x006 then (BitVec.ofNat 6 s.chunk.length).setWidth 32
  else if 0x010 ≤ n ∧ n ≤ 0x01C then (s.record.get (n - 0x010)).setWidth 32
  else if n = 0x020 then (BitVec.ofNat 6 (avgCount s)).setWidth 32
  else if n = 0x021 then (BitVec.ofNat 21 (avgSum s)).setWidth 32
  else if n = 0x022 then (avgX10 s).setWidth 32
  else if n = 0x023 then (avgState s).code.setWidth 32
  else if n = 0x024 then s.aqi.val.setWidth 32 ||| (flagWord s.aqi.err <<< 15)
  else if n = 0x025 then s.aqi.band.code.setWidth 32
  else if n = 0x026 then s.aqi.color.setWidth 32
  else if n = 0x028 then s.lookup.aqiVal.setWidth 32 ||| (flagWord s.lookup.aqiErr <<< 15)
  else if n = 0x029 then s.lookup.band.code.setWidth 32
  else if n = 0x02A then s.lookup.cband.code.setWidth 32
  else if n = 0x02B then s.lookup.color.setWidth 32
  else if 0x040 ≤ n ∧ n ≤ 0x05F then ((win s).getD (n - 0x040) 0).setWidth 32
  else if 0x100 ≤ n ∧ n ≤ 0x1FF then (s.buf.getD (n - 0x100) 0).setWidth 32
  else if 0x200 ≤ n ∧ n ≤ 0x21F then (s.chunk.getD (n - 0x200) 0).setWidth 32
  else 0

/-- The port `cmd_valid`: the host presents a command word (R22). -/
def cmdValid (s : State) : Bool :=
  match s.inputs with
  | .command _ :: _ => true
  | _ => false

/-- The port `cmd_word`, where `cmd_valid` is 1 (R22). -/
def cmdWord (s : State) : Option Word32 :=
  match s.inputs with
  | .command w :: _ => some w
  | _ => none

/-- The port `cmd_ready` (R22). A step is a whole command, so between steps no command executes and the
block accepts one (R193, R220). -/
def cmdReady (_ : State) : Bool := true

/-- A read of the read port. With `cmd_ready = 1` it returns the register; while a command executes it
returns "an unspecified value" (R67), which the `k`-th such read takes from `Config.busyReadData`. -/
def portRead (ready : Bool) (k : Nat) (s : State) (a : RegAddr) : Word32 :=
  if ready then regRead s a else Config.busyReadData k a

/-- The port `rd_data`: the register at `rd_addr` (R22). -/
def rdData (s : State) : Word32 := regRead s s.rdAddr

/-- The values the display collaborator reads (R195). -/
structure DisplayView where
  aqi : Word32
  color : Word32
  latest : Word32
  average : Word32
  avgState : Word32
  count : Word32
deriving DecidableEq, Repr

/-- Where the display collaborator reads them (R195). -/
def displayView (s : State) : DisplayView where
  aqi := regRead s 0x024
  color := regRead s 0x026
  latest := regRead s 0x014
  average := regRead s 0x022
  avgState := regRead s 0x023
  count := regRead s 0x020

end Sys2Proof.Machine
end

