-- ==== Sys2Proof/Machine/Run.lean ====
section
/-! DEFINITION. Runs: "a finite sequence of commands accepted after reset, and its result is the state
after the last command, observed through `RegRead`" (R231). -/

namespace Sys2Proof.Machine

/-- The block accepts these words one after the other (R231). -/
def runWords : List Word32 → State → Host.Outcome State Fault Refusal
  | [], s => .next s
  | w :: ws, s =>
    match acceptWord w s with
    | .next t => runWords ws t
    | .fault f => .fault f
    | .refused r => .refused r

/-- The host will issue these words after all else it was going to do. -/
def State.submit (s : State) (ws : List Word32) : State :=
  s.setInputs (s.inputs ++ ws.map PortInput.command)

/-- The result of a run from reset on a chip of build `b`, as the read port shows it (R231). -/
def runResult (b : Build) (ws : List Word32) (a : RegAddr) : Option Word32 :=
  match runWords ws (State.resetOf b) with
  | .next t => some (regRead t a)
  | .fault _ => none
  | .refused _ => none

end Sys2Proof.Machine
end

