-- ==== Sys2Proof/Safety.lean ====
section
/-! DEFINITION. The states a run can reach, as the spec bounds them, and a safe step. -/

namespace Sys2Proof.Machine

/-- The window's storage is in range: `WINDOW_N` entries, `WIN_HEAD` from 0 to `WINDOW_N - 1`,
`WIN_COUNT` from 0 to `WINDOW_N` (R26). -/
abbrev Window.InRange (n : Nat) (w : Window) : Prop := w.mem.length = n ∧ w.head < n ∧ w.count ≤ n

/-- A code R33 says is written to `ING_OUT`, or its reset value. -/
abbrev OutcomeCode.IsIngest (c : OutcomeCode) : Prop :=
  c = .none ∨ c = .insufficient ∨ c = .ready ∨ c = .capOverrun

/-- A code R33 says is written to `DEC_OUT`, or its reset value. -/
abbrev OutcomeCode.IsDecode (c : OutcomeCode) : Prop :=
  c = .none ∨ c = .insufficient ∨ c = .badHeader ∨ c = .badLength ∨ c = .checksum ∨ c = .ok

/-- Until the pipeline first computes an AQI its registers hold their reset values, and from then on
`BAND` is not NONE; `AQI_ERR` says that `BAND` is ERROR (R32, R33, R176). -/
abbrev AqiRegs.Coherent (r : AqiRegs) : Prop :=
  (r.valid = false → r.val = 0 ∧ r.err = false ∧ r.band = .none ∧ r.color = 0) ∧
    (r.valid = true → r.band ≠ .none) ∧ (r.err = true ↔ r.band = .error)

/-- `MAP_AQI_ERR` says that `MAP_BAND` is ERROR (R173). -/
abbrev LookupRegs.Coherent (r : LookupRegs) : Prop := r.aqiErr = true ↔ r.band = .error

/-- What holds of the block between commands (R23, R24, R26, R33). -/
abbrev State.Inv (s : State) : Prop :=
  s.buf.length ≤ 200 ∧ s.chunk.length ≤ 32 ∧ s.window.InRange (windowLen s.build) ∧
    s.ingOut.IsIngest ∧ s.decOut.IsDecode ∧ s.aqi.Coherent ∧ s.lookup.Coherent

/-- A safe step from `s`: `s` is in range, and the step answers a next state in range. -/
def State.SafeStep (s : State) : Prop := s.Inv ∧ ∃ t, step s = .next t ∧ t.Inv

end Sys2Proof.Machine
end

