-- ==== Sys2Proof/Certificates/Slice0/Obligations.lean ====
section
/-! DEFINITION. The statements about the model, for the provers. -/

open Sys2Proof Sys2Proof.Machine

/-! ### Encoding -/

/-- Words written out bit by bit from R81's formats and R83's opcodes decode to their commands. -/
def Obligations.WordsWrittenOutDecodeToTheirCommands : Prop :=
  decode 0b00000000000000000000000000000000#32 = .ok .nop ∧
    decode 0b00010000000000000000000000000000#32 = .ok .ingest ∧
    decode 0b00100000000000000000000000000000#32 = .ok .decode ∧
    decode 0b00110000000000000000000000000000#32 = .ok .tick ∧
    decode 0b01000000000000001000000000000001#32 = .ok (.avgPush 0x8001#16) ∧
    decode 0b01010000000010000000000000000001#32 = .ok (.aqiMap 0x80001#20) ∧
    decode 0b01100000000000000000001000000001#32 = .ok (.colorMap 0x201#10) ∧
    decode 0b01110000000000000000000001000010#32 = .ok (.stage 0x42#8) ∧
    decode 0b11110000000000000000000000000000#32 = .ok .reset

/-- No bit of an encoding is dropped: every command, with every operand, decodes back to itself. -/
def Obligations.DecodeOfEncodeIsTheCommand : Prop :=
  ∀ i : Instr, decode (encode i) = .ok i

/-- Each legal word is the encoding of the one command it decodes to. -/
def Obligations.LegalWordIsTheEncodingOfItsCommand : Prop :=
  ∀ (w : Word32) (i : Instr), decode w = .ok i → encode i = w

/-- R83: the rows of the opcode map that select a word are the one row of the command it decodes to, or
none where it is illegal. -/
def Obligations.OneOpcodeRowSelectsALegalWord : Prop :=
  ∀ w : Word32,
    ((opcodeMap.filter fun r => r.selectedBy w).map fun r => r.mnemonic) =
      match decode w with
      | .ok i => [i.mnemonic]
      | .error _ => []

/-- R85: the illegal words are those with a reserved opcode, or a legal one with a reserved bit set; the
block accepts each, and it sets `ILL` and changes nothing else. -/
def Obligations.IllegalWordsAreTheReservedOnes : Prop :=
  ∀ w : Word32,
    ((∃ e, decode w = .error e) ↔
      (8 ≤ w.toNat / 2 ^ 28 ∧ w.toNat / 2 ^ 28 ≤ 14) ∨
        ((w.toNat / 2 ^ 28 ≤ 3 ∨ w.toNat / 2 ^ 28 = 15) ∧ w.toNat % 2 ^ 28 ≠ 0) ∨
        (w.toNat / 2 ^ 28 = 4 ∧ w.toNat / 2 ^ 16 % 2 ^ 12 ≠ 0) ∨
        (w.toNat / 2 ^ 28 = 5 ∧ w.toNat / 2 ^ 20 % 2 ^ 8 ≠ 0) ∨
        (w.toNat / 2 ^ 28 = 6 ∧ w.toNat / 2 ^ 10 % 2 ^ 18 ≠ 0) ∨
        (w.toNat / 2 ^ 28 = 7 ∧ w.toNat / 2 ^ 8 % 2 ^ 20 ≠ 0)) ∧
      ∀ (s : State) (e : IllegalWord), decode w = .error e →
        acceptWord w s = .next { s with ill := true }

/-! ### A step -/

/-- The next thing the host does is a legal command word: the step is its command's, at the state in
which the host has that word behind it. The input list is the model's own (log entry 1). -/
def Obligations.StepRunsTheAcceptedCommand : Prop :=
  ∀ (s : State) (w : Word32) (rest : List PortInput) (i : Instr),
    s.inputs = .command w :: rest → decode w = .ok i → step s = exec i { s with inputs := rest }

/-- R192, of a step: an illegal word sets `ILL`, and nothing else changes. -/
def Obligations.IllegalWordOnlySetsIll : Prop :=
  ∀ (s : State) (w : Word32) (rest : List PortInput) (e : IllegalWord),
    s.inputs = .command w :: rest → decode w = .error e →
      step s = .next { s with inputs := rest, ill := true }

/-- The reset pin has the same effect as the RESET command, the block is then ready, and a word the host
presents next is accepted. The pulse is one step of the model (log entry 3). -/
def Obligations.ResetPinActsAsTheResetCommand : Prop :=
  ∀ (s : State) (rest : List PortInput), s.inputs = .resetPulse :: rest →
    step s = exec .reset { s with inputs := rest } ∧
      ∃ t, step s = .next t ∧ cmdReady t = true ∧ t.inputs = rest

/-- Where the host does nothing, or only sets `rd_addr`, the block holds its state, and the read port
shows the register addressed. -/
def Obligations.BlockHoldsItsStateBetweenCommands : Prop :=
  ∀ s : State,
    (s.inputs = [] → step s = .next s) ∧
      ∀ (a : RegAddr) (rest : List PortInput), s.inputs = .readAddr a :: rest →
        ∃ t, step s = .next t ∧ t = { s with inputs := rest, rdAddr := a } ∧ rdData t = regRead s a

/-- Every step answers exactly one next state, and never a fault or a refusal; so does every command
word. -/
def Obligations.EveryStepAnswersANextState : Prop :=
  (∀ s : State, ∃ t, step s = .next t) ∧
    (∀ (w : Word32) (s : State), ∃ t, acceptWord w s = .next t) ∧
    ∀ (i : Instr) (s : State), ∃ t, exec i s = .next t

/-- R67: a read made when the block is ready returns the register in the state left by every command
accepted before it, and no command after the read has any part in it. Of a read made while a command
executes nothing is said. The input list is the model's own (log entry 1). -/
def Obligations.ReadReturnsWhatTheCommandsBeforeItLeft : Prop :=
  ∀ (ws : List Word32) (s : State) (a : RegAddr) (later : List PortInput),
    s.inputs = ws.map PortInput.command ++ .readAddr a :: later →
      ∃ u t, runWords ws { s with inputs := later } = .next u ∧
        Host.Core.run core (ws.length + 1) s = .next t ∧ t = { u with rdAddr := a } ∧
        cmdReady t = true ∧ rdData t = regRead u a ∧ ∀ k, portRead (cmdReady t) k t a = regRead u a

/-- The words the host has queued are accepted one a step and in order. -/
def Obligations.QueuedWordsAreAcceptedInOrder : Prop :=
  ∀ (ws : List Word32) (s : State), s.inputs = [] →
    Host.Core.run core ws.length (s.submit ws) = runWords ws s ∧ ∃ t, runWords ws s = .next t

/-! ### NOP, STAGE and INGEST -/

/-- R190. -/
def Obligations.NopChangesNothing : Prop :=
  (∀ w : Word32, decode w = .ok .nop ↔ w = 0x00000000#32) ∧ ∀ s : State, exec .nop s = .next s

/-- R100: the byte goes to the end of `CHUNK`, or, with 32 bytes staged, is lost and sets `STG_OVF`. -/
def Obligations.StageAppendsTheByteOrSetsOverflow : Prop :=
  (∀ (w : Word32) (b : Byte), decode w = .ok (.stage b) ↔ w = 0x70000000#32 + b.setWidth 32) ∧
    ∀ (s : State) (b : Byte),
      (s.chunk.length < 32 → exec (.stage b) s = .next { s with chunk := s.chunk ++ [b] }) ∧
        (32 ≤ s.chunk.length → exec (.stage b) s = .next { s with stgOvf := true })

/-- R102: append, empty `CHUNK`, discard the leading bytes that are not 0x42, then the capacity check. -/
def Obligations.IngestAppendsAlignsAndChecksTheCap : Prop :=
  (∀ w : Word32, decode w = .ok .ingest ↔ w = 0x10000000#32) ∧
    ∀ (s : State) (b : List Byte), b = (s.buf ++ s.chunk).dropWhile (fun x => x != 0x42#8) →
      (200 < b.length →
        exec .ingest s = .next { s with chunk := [], buf := [], ingOut := .capOverrun }) ∧
      (b.length < 32 →
        exec .ingest s = .next { s with chunk := [], buf := b, ingOut := .insufficient }) ∧
      (32 ≤ b.length → b.length ≤ 200 →
        exec .ingest s = .next { s with chunk := [], buf := b, ingOut := .ready })

/-- R103: alignment takes only leading bytes other than 0x42 away; from a sequence that begins with 0x42
it takes nothing, and from one without 0x42 it takes everything. -/
def Obligations.AlignmentDiscardsOnlyLeadingJunk : Prop :=
  ∀ bs : List Byte,
    (∃ junk, bs = junk ++ alignBytes bs ∧ ∀ b ∈ junk, b ≠ 0x42#8) ∧
      (alignBytes bs = [] ∨ (alignBytes bs).head? = some 0x42#8) ∧
      (bs.head? = some 0x42#8 → alignBytes bs = bs) ∧
      (0x42#8 ∉ bs → alignBytes bs = [])

/-- R106: after every INGEST `BUF` is at most 200 bytes long and begins with 0x42 if it is not empty; the
first half holds after every command. -/
def Obligations.IngestLeavesAnAlignedBufferWithinTheCap : Prop :=
  (∀ s t : State, exec .ingest s = .next t →
    t.buf.length ≤ 200 ∧ (t.buf = [] ∨ t.buf.head? = some 0x42#8)) ∧
    ∀ (i : Instr) (s t : State), s.buf.length ≤ 200 → exec i s = .next t → t.buf.length ≤ 200

/-- R105: the cap is checked once per INGEST, on the whole chunk. With 190 aligned bytes in `BUF`, one
chunk of 32 is flushed whole; the same bytes as chunks of 11 and 21 leave the last 21, from their first
0x42 on. -/
def Obligations.CapIsCheckedOncePerChunk : Prop :=
  ∀ (s : State) (x y : List Byte), s.buf.length = 190 → s.buf.head? = some 0x42#8 →
    x.length = 11 → y.length = 21 →
      exec .ingest { s with chunk := x ++ y } =
          .next { s with chunk := [], buf := [], ingOut := .capOverrun } ∧
        exec .ingest { s with chunk := x } =
          .next { s with chunk := [], buf := [], ingOut := .capOverrun } ∧
        exec .ingest { s with chunk := y, buf := [], ingOut := .capOverrun } =
          .next { s with chunk := [], buf := alignBytes y, ingOut := .insufficient }

/-- R107: an empty INGEST realigns and evaluates the outcome again; on an aligned buffer within the cap
it changes only `ING_OUT`. -/
def Obligations.EmptyIngestOfAnAlignedBufferOnlyWritesTheOutcome : Prop :=
  ∀ s : State, s.chunk = [] → s.buf.length ≤ 200 →
    exec .ingest s =
        .next
          { s with
            buf := alignBytes s.buf
            ingOut := if (alignBytes s.buf).length < 32 then .insufficient else .ready } ∧
      ((s.buf = [] ∨ s.buf.head? = some 0x42#8) →
        exec .ingest s =
          .next { s with ingOut := if s.buf.length < 32 then .insufficient else .ready })

/-- R108: READY says exactly that 32 bytes are there and the first is 0x42; the bytes past the 32nd stay;
INSUFFICIENT says that fewer are there. -/
def Obligations.ReadySaysThatAPrefixIsThere : Prop :=
  ∀ s t : State, exec .ingest s = .next t →
    (t.ingOut = .ready ↔ 32 ≤ t.buf.length ∧ t.buf.head? = some 0x42#8) ∧
      (t.ingOut = .ready → t.buf = alignBytes (s.buf ++ s.chunk)) ∧
      (t.ingOut = .insufficient → t.buf.length < 32)

/-! ### DECODE and TICK -/

/-- R12, R62: a big-endian pair is 256 times its first byte plus its second, and the 16-bit byte sum is
the exact sum, at most 7650 (R126). -/
def Obligations.PairsAreBigEndianAndSumsExact : Prop :=
  (∀ (w : List Byte) (k : Nat), (fieldAt w k).toNat = pairValue w k) ∧
    ∀ w : List Byte, (byteSum w).toNat = exactSum w ∧ exactSum w ≤ 7650

/-- DECODE on fewer than 32 aligned bytes: INSUFFICIENT, and no change beyond the alignment (R129 (1)). -/
def Obligations.DecodeOfAShortBufferIsInsufficient : Prop :=
  (∀ w : Word32, decode w = .ok .decode ↔ w = 0x20000000#32) ∧
    ∀ s : State, (alignBytes s.buf).length < 32 →
      exec .decode s = .next { s with buf := alignBytes s.buf, decOut := .insufficient }

/-- R122: on a wrong second header byte one byte goes, whatever else is wrong with the window. -/
def Obligations.BadSecondHeaderDropsOneByte : Prop :=
  ∀ (s : State) (w rest : List Byte), alignBytes s.buf = w ++ rest → w.length = 32 →
    byteAt w 1 ≠ 0x4D#8 →
      exec .decode s = .next { s with buf := w.drop 1 ++ rest, decOut := .badHeader }

/-- R123: behind a right header, a length other than 28 flushes the whole buffer. -/
def Obligations.BadLengthFlushesTheBuffer : Prop :=
  ∀ (s : State) (w rest : List Byte), alignBytes s.buf = w ++ rest → w.length = 32 →
    byteAt w 1 = 0x4D#8 → pairValue w 2 ≠ 28 →
      exec .decode s = .next { s with buf := [], decOut := .badLength }

/-- R126: behind a right header and length, a checksum field that is not the exact sum of bytes 0 to 29
flushes the buffer; so does every field below 171 or above 7650. -/
def Obligations.BadChecksumFlushesTheBuffer : Prop :=
  ∀ (s : State) (w rest : List Byte), alignBytes s.buf = w ++ rest → w.length = 32 →
    byteAt w 1 = 0x4D#8 → pairValue w 2 = 28 →
      (exactSum w ≠ pairValue w 30 →
        exec .decode s = .next { s with buf := [], decOut := .checksum }) ∧
      (pairValue w 30 < 171 ∨ 7650 < pairValue w 30 →
        exec .decode s = .next { s with buf := [], decOut := .checksum })

/-- R127, R124: an accepted frame leaves the bytes behind it, writes all thirteen fields, pushes field 4,
and runs the AQI pipeline; nothing else changes. -/
def Obligations.AcceptedFrameEntersThePipeline : Prop :=
  ∀ (s : State) (w rest : List Byte), alignBytes s.buf = w ++ rest → w.length = 32 →
    byteAt w 1 = 0x4D#8 → pairValue w 2 = 28 → exactSum w = pairValue w 30 →
      ∃ (r : MeasurementRecord) (win' : Window),
        (∀ k, k < 13 → (r.get k).toNat = pairValue w (4 + 2 * k)) ∧
          win' = s.window.push (windowLen s.build) (r.get 4) ∧
          exec .decode s = .next
            { s with
              buf := rest
              record := r
              decOut := .ok
              window := win'
              aqi := aqiAfter s.build win' s.aqi }

/-- R132: a well-formed frame at the front of `BUF` is decoded to the values it carries, by DECODE and by
TICK, and exactly its 32 bytes go. -/
def Obligations.WellFormedFrameRoundTrip : Prop :=
  ∀ (s : State) (w rest : List Byte), s.buf = w ++ rest → IsFrame w →
    (∃ t, exec .decode s = .next t ∧ t.decOut = .ok ∧ t.buf = rest ∧
      ∀ k, k < 13 → (t.record.get k).toNat = pairValue w (4 + 2 * k)) ∧
    ((s.buf ++ s.chunk).length ≤ 200 →
      ∃ t, exec .tick s = .next t ∧ t.ingOut = .ready ∧ t.decOut = .ok ∧ t.buf = rest ++ s.chunk ∧
        ∀ k, k < 13 → (t.record.get k).toNat = pairValue w (4 + 2 * k))

/-- R133: what DECODE does when one byte of a valid frame, at offset `j`, was changed. -/
def Obligations.SingleByteCorruptionIsDetected : Prop :=
  ∀ (s : State) (w rest : List Byte) (j : Nat) (x : Byte), IsFrame w → j < 32 → x ≠ byteAt w j →
    s.buf = w.set j x ++ rest →
      (4 ≤ j → exec .decode s = .next { s with buf := [], decOut := .checksum }) ∧
      (j = 2 ∨ j = 3 → exec .decode s = .next { s with buf := [], decOut := .badLength }) ∧
      (j = 1 → exec .decode s = .next { s with buf := (x :: w.drop 2) ++ rest, decOut := .badHeader }) ∧
      (j = 0 → exec .decode s = exec .decode { s with buf := w.drop 1 ++ rest })

/-- R131: TICK is INGEST and then DECODE; where the ingest does not report READY, the decode reports
INSUFFICIENT and changes nothing more. -/
def Obligations.TickIsIngestThenDecode : Prop :=
  (∀ w : Word32, decode w = .ok .tick ↔ w = 0x30000000#32) ∧
    ∀ s : State, ∃ u t, exec .ingest s = .next u ∧ exec .decode u = .next t ∧
      exec .tick s = .next t ∧ (u.ingOut ≠ .ready → t = { u with decOut := .insufficient }) ∧
      runWords [0x10000000#32, 0x20000000#32] s = .next t ∧ runWords [0x30000000#32] s = .next t

/-- R25, R127: only an accepted frame, or a reset, changes a register of the record; and no command
reports the reserved outcome STRUCTURAL (R128). -/
def Obligations.RecordIsWrittenOnlyByAnAcceptedFrame : Prop :=
  ∀ (i : Instr) (s t : State), exec i s = .next t →
    (t.record ≠ s.record → i = .reset ∨ ((i = .decode ∨ i = .tick) ∧ t.decOut = .ok)) ∧
      (t.decOut = .structural → s.decOut = .structural) ∧
      (t.ingOut = .structural → s.ingOut = .structural)

/-! ### The rolling average -/

/-- R150: AVG_PUSH pushes its operand and runs the AQI pipeline; nothing else changes. -/
def Obligations.AvgPushPushesAndUpdatesTheAqi : Prop :=
  (∀ (w : Word32) (v : Word16), decode w = .ok (.avgPush v) ↔ w = 0x40000000#32 + v.setWidth 32) ∧
    ∀ (s : State) (v : Word16),
      exec (.avgPush v) s = .next
        { s with
          window := s.window.push (windowLen s.build) v
          aqi := aqiAfter s.build (s.window.push (windowLen s.build) v) s.aqi }

/-- R151: the circular storage is a queue of at most `n` entries: a push writes one cell, and seen as the
logical sequence it appends the reading and, past `n` entries, evicts the oldest. -/
def Obligations.CircularWindowIsABoundedQueue : Prop :=
  ∀ (n : Nat) (w : Window) (v : Word16), w.InRange n →
    (w.count < n → w.push n v =
      { mem := w.mem.set ((w.head + w.count) % n) v, head := w.head, count := w.count + 1 }) ∧
    (w.count = n → w.push n v =
      { mem := w.mem.set w.head v, head := (w.head + 1) % n, count := w.count }) ∧
    (w.push n v).InRange n ∧
    (w.push n v).contents n =
      (if (w.contents n ++ [v]).length > n then (w.contents n ++ [v]).drop 1 else w.contents n ++ [v])

/-- The window property of R152 and R157 for every window and every readings: once at least `WINDOW_N`
readings are pushed, the window holds exactly the most recent `WINDOW_N`, the averager is FULL, and the
average is their mean, truncated to 0.1 µg/m³. -/
def Obligations.WindowHoldsTheMostRecentReadings : Prop :=
  ∀ (s : State) (vs : List Word16), s.window.InRange (windowLen s.build) →
    windowLen s.build ≤ vs.length →
      ∃ t, runWords (vs.map fun v => encode (.avgPush v)) s = .next t ∧
        win t = vs.drop (vs.length - windowLen s.build) ∧ avgState t = .full ∧
        (avgX10 t).toNat =
          10 * ((vs.drop (vs.length - windowLen s.build)).map BitVec.toNat).sum / windowLen s.build

/-- R154: the averager's state from `WIN_COUNT` and `REPORT_PARTIAL`, and the states' codes. -/
def Obligations.AveragerStateFollowsTheCount : Prop :=
  ∀ s : State, s.window.count ≤ windowLen s.build →
    (avgState s = .empty ↔ s.window.count = 0) ∧
    (avgState s = .filling ↔
      0 < s.window.count ∧ s.window.count < windowLen s.build ∧ s.build.reportPartial = true) ∧
    (avgState s = .calculating ↔
      0 < s.window.count ∧ s.window.count < windowLen s.build ∧ s.build.reportPartial = false) ∧
    (avgState s = .full ↔ s.window.count = windowLen s.build) ∧
    [AvgState.empty, .filling, .calculating, .full].map AvgState.code = [0#2, 1#2, 2#2, 3#2]

/-- R153, R155: the sum is exact and fits 21 bits; the reported average is the floor of ten times the
mean, never above 655350, and 0 where none is reported. -/
def Obligations.AverageIsTheTruncatedMean : Prop :=
  ∀ s : State, s.window.count ≤ windowLen s.build →
    avgSum s = ((win s).map BitVec.toNat).sum ∧ avgSum s ≤ 1966050 ∧
    (avgState s = .filling ∨ avgState s = .full →
      (avgX10 s).toNat = 10 * avgSum s / s.window.count) ∧
    (avgState s = .empty ∨ avgState s = .calculating → (avgX10 s).toNat = 0) ∧
    (avgX10 s).toNat ≤ 655350

/-! ### The AQI mapper -/

/-- R171: the band of a concentration is the first row, in table order, whose closed interval holds it;
with the default table exactly the concentrations above 5004 have none. -/
def Obligations.FirstRowContainingTheConcentrationWins : Prop :=
  ∀ (b : Build) (c : Conc),
    (∀ k : AqiBand, bandOf b c = .band k ↔
      ∃ earlier later, [AqiBand.good, .moderate, .unhealthy1, .unhealthy2, .unhealthy3, .hazardous] =
          earlier ++ k :: later ∧
        ((b.bandTable.get k).cLo ≤ c.toNat ∧ c.toNat ≤ (b.bandTable.get k).cHi) ∧
        ∀ j ∈ earlier, ¬((b.bandTable.get j).cLo ≤ c.toNat ∧ c.toNat ≤ (b.bandTable.get j).cHi)) ∧
    (bandOf b c = .error ↔
      ∀ j : AqiBand, ¬((b.bandTable.get j).cLo ≤ c.toNat ∧ c.toNat ≤ (b.bandTable.get j).cHi)) ∧
    bandOf b c ≠ .none ∧
    (b.bandTable = Config.defaultBandTable → (bandOf b c = .error ↔ 5004 < c.toNat))

/-- R172: the AQI is interpolated over the integers in the band of the concentration, multiplication
first, quotient floored; with the default table it lies in the band's AQI interval, within 0 to 500. That
the exact value is cut to 10 bits, which only a table with AQI entries above 1023 can show, is the model's
choice (log entry 6). The value carried with ERROR means nothing (U7), and nothing is said of it. -/
def Obligations.InterpolationIsExactAndFloored : Prop :=
  ∀ (b : Build) (c : Conc),
    (aqiOf b c).2 = bandOf b c ∧
    ∀ k : AqiBand, bandOf b c = .band k →
      ((aqiOf b c).1 = BitVec.ofNat 10 ((b.bandTable.get k).iLo +
        (((b.bandTable.get k).iHi - (b.bandTable.get k).iLo) * (c.toNat - (b.bandTable.get k).cLo)) /
          ((b.bandTable.get k).cHi - (b.bandTable.get k).cLo))) ∧
      (b.bandTable = Config.defaultBandTable →
        (b.bandTable.get k).iLo ≤ (aqiOf b c).1.toNat ∧
          (aqiOf b c).1.toNat ≤ (b.bandTable.get k).iHi ∧ (aqiOf b c).1.toNat ≤ 500)

/-- R179: a boundary value belongs to the lower band, and 600.0 µg/m³ yields Error. -/
def Obligations.BoundaryValuesBelongToTheLowerBand : Prop :=
  ∀ b : Build, b.bandTable = Config.defaultBandTable →
    aqiOf b 120 = (50, .band .good) ∧ aqiOf b 121 = (51, .band .moderate) ∧
      (aqiOf b 6000).2 = .error ∧
      bandOf b 354 = .band .moderate ∧ bandOf b 355 = .band .unhealthy1 ∧
      bandOf b 554 = .band .unhealthy1 ∧ bandOf b 555 = .band .unhealthy2 ∧
      bandOf b 1504 = .band .unhealthy2 ∧ bandOf b 1505 = .band .unhealthy3 ∧
      bandOf b 2504 = .band .unhealthy3 ∧ bandOf b 2505 = .band .hazardous ∧
      bandOf b 5004 = .band .hazardous ∧ bandOf b 5005 = .error

/-- R173: AQI_MAP writes `MAP_AQI_VAL`, `MAP_AQI_ERR` and `MAP_BAND`, and nothing else. -/
def Obligations.AqiMapWritesOnlyItsThreeRegisters : Prop :=
  (∀ (w : Word32) (c : Conc), decode w = .ok (.aqiMap c) ↔ w = 0x50000000#32 + c.setWidth 32) ∧
    ∀ (s : State) (c : Conc),
      exec (.aqiMap c) s = .next
        { s with
          lookup :=
            { s.lookup with
              aqiVal := (aqiOf s.build c).1
              aqiErr := decide (bandOf s.build c = .error)
              band := bandOf s.build c } }

/-- R175: the colour of an AQI value is that of the first row whose closed AQI interval holds it, and
COLOR_ERROR where none does; with the default table none does exactly above 500. -/
def Obligations.ColourComesFromTheAqiIntervals : Prop :=
  ∀ (b : Build) (a : Score),
    (∀ k : AqiBand, bandOfAqi b a = .band k ↔
      ∃ earlier later, [AqiBand.good, .moderate, .unhealthy1, .unhealthy2, .unhealthy3, .hazardous] =
          earlier ++ k :: later ∧
        ((b.bandTable.get k).iLo ≤ a.toNat ∧ a.toNat ≤ (b.bandTable.get k).iHi) ∧
        ∀ j ∈ earlier, ¬((b.bandTable.get j).iLo ≤ a.toNat ∧ a.toNat ≤ (b.bandTable.get j).iHi)) ∧
    (∀ k : AqiBand, bandOfAqi b a = .band k → colorOf b a = b.colorTable.get k) ∧
    (bandOfAqi b a = .error → colorOf b a = b.colorError) ∧
    bandOfAqi b a ≠ .none ∧
    (b.bandTable = Config.defaultBandTable → (bandOfAqi b a = .error ↔ 500 < a.toNat))

/-- R177: COLOR_MAP writes `MAP_CBAND` and `MAP_COLOR`, and nothing else. -/
def Obligations.ColorMapWritesOnlyItsTwoRegisters : Prop :=
  (∀ (w : Word32) (a : Score), decode w = .ok (.colorMap a) ↔ w = 0x60000000#32 + a.setWidth 32) ∧
    ∀ (s : State) (a : Score),
      exec (.colorMap a) s = .next
        { s with
          lookup := { s.lookup with cband := bandOfAqi s.build a, color := colorOf s.build a } }

/-- R176: where an average is reported, the pipeline's registers take the AQI of that average, its band
and its colour, and `AQI_VALID` becomes 1; where none is, no register changes. -/
def Obligations.AqiUpdateFollowsTheReportedAverage : Prop :=
  ∀ s : State,
    (avgState s = .filling ∨ avgState s = .full →
      aqiUpdate s =
        { s with
          aqi :=
            { valid := true
              val := (aqiOf s.build (avgX10 s)).1
              err := decide (bandOf s.build (avgX10 s) = .error)
              band := bandOf s.build (avgX10 s)
              color :=
                if bandOf s.build (avgX10 s) = .error then s.build.colorError
                else colorOf s.build (aqiOf s.build (avgX10 s)).1 } }) ∧
    (avgState s = .empty ∨ avgState s = .calculating → aqiUpdate s = s)

/-- R180: with the default table the band derived from the AQI value is the concentration's band, so the
colour is that band's. -/
def Obligations.ColourBandIsTheConcentrationBand : Prop :=
  ∀ (b : Build) (c : Conc) (k : AqiBand), b.bandTable = Config.defaultBandTable →
    bandOf b c = .band k →
      bandOfAqi b (aqiOf b c).1 = .band k ∧ colorOf b (aqiOf b c).1 = b.colorTable.get k

/-! ### Reset, status and the read port -/

/-- R191, R35: RESET gives every state element its reset value; the build, and what the host does at the
ports, are no state element of the block and stay. That `inputs` and `rdAddr` stay (log entry 1), and that
a pulse of `rst_n` is one step, which does the same (log entry 3), is the model's choice. -/
def Obligations.ResetRestoresEveryStateElement : Prop :=
  (∀ w : Word32, decode w = .ok .reset ↔ w = 0xF0000000#32) ∧
    ∀ s : State,
      exec .reset s = .next
        { build := s.build
          buf := []
          chunk := []
          record := ⟨0, 0, 0, 0, 0, 0, 0, 0, 0, 0, 0, 0, 0⟩
          window := ⟨List.replicate (windowLen s.build) 0, 0, 0⟩
          ingOut := .none
          decOut := .none
          ill := false
          stgOvf := false
          aqi := { valid := false, val := 0, err := false, band := .none, color := 0 }
          lookup := { aqiVal := 0, aqiErr := false, band := .none, cband := .none, color := 0 }
          inputs := s.inputs
          rdAddr := s.rdAddr } ∧
      serve .resetPulse s = exec .reset s

/-- R35: the registers of a chip after reset, as the read port shows them, whatever its build. -/
def Obligations.RegistersAfterReset : Prop :=
  ∀ b : Build,
    avgCount (State.resetOf b) = 0 ∧ avgSum (State.resetOf b) = 0 ∧
      avgState (State.resetOf b) = .empty ∧ avgX10 (State.resetOf b) = 0 ∧
      ∀ a : RegAddr, regRead (State.resetOf b) a =
        if a = 0x000#10 then 0x41514D43#32
        else if a = 0x001#10 then
          BitVec.ofNat 32 (b.windowN.toNat + 256 * b.reportPartial.toNat + 65536 * 200 + 16777216 * 32)
        else if a = 0x025#10 ∨ a = 0x029#10 ∨ a = 0x02A#10 then 6#32
        else 0#32

/-- R32: no command but RESET clears a STATUS bit; an illegal word, and only it, sets `ILL`; a STAGE that
finds 32 bytes staged, and only it, sets `STG_OVF`; `AQI_VALID` is set when the pipeline computes an
AQI. -/
def Obligations.OnlyResetClearsAStatusBit : Prop :=
  (∀ (i : Instr) (s t : State), i ≠ .reset → exec i s = .next t →
    t.ill = s.ill ∧
      (t.stgOvf = true ↔ s.stgOvf = true ∨ ((∃ b, i = .stage b) ∧ 32 ≤ s.chunk.length)) ∧
      (t.aqi.valid = true ↔
        s.aqi.valid = true ∨
          (((∃ v, i = .avgPush v) ∨ ((i = .decode ∨ i = .tick) ∧ t.decOut = .ok)) ∧
            (avgState t = .filling ∨ avgState t = .full)))) ∧
    (∀ (w : Word32) (e : IllegalWord) (s : State), decode w = .error e →
      acceptWord w s = .next { s with ill := true }) ∧
    ∀ s : State, ∃ t, exec .reset s = .next t ∧ t.ill = false ∧ t.stgOvf = false ∧ t.aqi.valid = false

/-- R31: every listed address reads its register, zero-extended, and every other address reads 0. -/
def Obligations.ReadPortShowsTheRegisterMap : Prop :=
  ∀ s : State, s.Inv →
    regRead s 0x000#10 = 0x41514D43#32 ∧
    (regRead s 0x001#10).toNat =
      s.build.windowN.toNat + 256 * s.build.reportPartial.toNat + 65536 * 200 + 16777216 * 32 ∧
    (regRead s 0x002#10).toNat = s.ill.toNat + 2 * s.stgOvf.toNat + 4 * s.aqi.valid.toNat ∧
    (regRead s 0x003#10).toNat = s.ingOut.code.toNat ∧
    (regRead s 0x004#10).toNat = s.decOut.code.toNat ∧
    (regRead s 0x005#10).toNat = s.buf.length ∧
    (regRead s 0x006#10).toNat = s.chunk.length ∧
    (∀ k, k < 13 → (regRead s (BitVec.ofNat 10 (0x010 + k))).toNat = (s.record.get k).toNat) ∧
    (regRead s 0x020#10).toNat = s.window.count ∧
    (regRead s 0x021#10).toNat = avgSum s ∧
    (regRead s 0x022#10).toNat = (avgX10 s).toNat ∧
    (regRead s 0x023#10).toNat = (avgState s).code.toNat ∧
    (regRead s 0x024#10).toNat = s.aqi.val.toNat + 32768 * s.aqi.err.toNat ∧
    (regRead s 0x025#10).toNat = s.aqi.band.code.toNat ∧
    (regRead s 0x026#10).toNat = s.aqi.color.toNat ∧
    (regRead s 0x028#10).toNat = s.lookup.aqiVal.toNat + 32768 * s.lookup.aqiErr.toNat ∧
    (regRead s 0x029#10).toNat = s.lookup.band.code.toNat ∧
    (regRead s 0x02A#10).toNat = s.lookup.cband.code.toNat ∧
    (regRead s 0x02B#10).toNat = s.lookup.color.toNat ∧
    (∀ k, k < 32 →
      (regRead s (BitVec.ofNat 10 (0x040 + k))).toNat = ((win s)[k]?.map BitVec.toNat).getD 0) ∧
    (∀ k, k < 256 →
      (regRead s (BitVec.ofNat 10 (0x100 + k))).toNat = (s.buf[k]?.map BitVec.toNat).getD 0) ∧
    (∀ k, k < 32 →
      (regRead s (BitVec.ofNat 10 (0x200 + k))).toNat = (s.chunk[k]?.map BitVec.toNat).getD 0) ∧
    (∀ a : RegAddr,
      (0x007 ≤ a.toNat ∧ a.toNat ≤ 0x00F) ∨ (0x01D ≤ a.toNat ∧ a.toNat ≤ 0x01F) ∨ a.toNat = 0x027 ∨
        (0x02C ≤ a.toNat ∧ a.toNat ≤ 0x03F) ∨ (0x060 ≤ a.toNat ∧ a.toNat ≤ 0x0FF) ∨
        0x220 ≤ a.toNat → regRead s a = 0#32)

/-- R33: the numbers of the outcome, band and averager state codes. -/
def Obligations.CodesAreNumberedAsTheTablesSay : Prop :=
  [OutcomeCode.none, .insufficient, .ready, .capOverrun, .badHeader, .badLength, .structural, .checksum,
      .ok].map (fun c => c.code.toNat) = [0, 1, 2, 3, 4, 5, 6, 7, 8] ∧
    [BandCode.band .good, .band .moderate, .band .unhealthy1, .band .unhealthy2, .band .unhealthy3,
      .band .hazardous, .none, .error].map (fun k => k.code.toNat) = [0, 1, 2, 3, 4, 5, 6, 7] ∧
    [AvgState.empty, .filling, .calculating, .full].map (fun a => a.code.toNat) = [0, 1, 2, 3]

/-- R34: the build, and with it CONFIG, is the same after every step. -/
def Obligations.ConfigIsConstant : Prop :=
  ∀ s t : State, step s = .next t → t.build = s.build ∧ regRead t 0x001#10 = regRead s 0x001#10

/-! ### Whole-machine rules -/

/-- Each state element changes only by the commands the spec says mutate it (R23 to R29), and no command
changes the build (R8, R34). That no command touches `inputs` and `rdAddr` is the model's choice (log
entry 1). -/
def Obligations.EachCommandChangesOnlyItsOwnElements : Prop :=
  ∀ (i : Instr) (s t : State), exec i s = .next t →
    (i ≠ .ingest → i ≠ .decode → i ≠ .tick → i ≠ .reset → t.buf = s.buf) ∧
    ((∀ b, i ≠ .stage b) → i ≠ .ingest → i ≠ .tick → i ≠ .reset → t.chunk = s.chunk) ∧
    (i ≠ .ingest → i ≠ .tick → i ≠ .reset → t.ingOut = s.ingOut) ∧
    (i ≠ .decode → i ≠ .tick → i ≠ .reset → t.decOut = s.decOut ∧ t.record = s.record) ∧
    ((∀ v, i ≠ .avgPush v) → i ≠ .decode → i ≠ .tick → i ≠ .reset →
      t.window = s.window ∧ t.aqi = s.aqi) ∧
    ((i = .decode ∨ i = .tick) → t.decOut ≠ .ok → t.window = s.window ∧ t.aqi = s.aqi) ∧
    ((∀ c, i ≠ .aqiMap c) → (∀ a, i ≠ .colorMap a) → i ≠ .reset → t.lookup = s.lookup) ∧
    (i ≠ .reset → t.ill = s.ill) ∧ ((∀ b, i ≠ .stage b) → i ≠ .reset → t.stgOvf = s.stgOvf) ∧
    t.build = s.build ∧ t.inputs = s.inputs ∧ t.rdAddr = s.rdAddr

/-- R27: no observable result depends on `WIN_HEAD` or the hidden storage of the window. Two states that
differ only in how they store one and the same logical window read alike at every address, and after a
step they still differ in nothing else. -/
def Obligations.HiddenWindowStorageIsNotObservable : Prop :=
  ∀ (s : State) (w : Window), s.window.InRange (windowLen s.build) → w.InRange (windowLen s.build) →
    w.contents (windowLen s.build) = s.window.contents (windowLen s.build) →
      (∀ a : RegAddr, regRead { s with window := w } a = regRead s a) ∧
      ∃ (t : State) (w' : Window), step s = .next t ∧
        step { s with window := w } = .next { t with window := w' } ∧
        t.window.InRange (windowLen t.build) ∧ w'.InRange (windowLen t.build) ∧
        w'.contents (windowLen t.build) = t.window.contents (windowLen t.build)

/-- The direct lookups do not disturb the displayed values: what the `MAP_` registers hold has no effect
on anything but the `MAP_` registers. -/
def Obligations.LookupRegistersInfluenceNothingElse : Prop :=
  ∀ (s : State) (r : LookupRegs), ∃ (t : State) (r' : LookupRegs), step s = .next t ∧
    step { s with lookup := r } = .next { t with lookup := r' }

/-- Every step keeps the block in range: `BUF` within 200 bytes, `CHUNK` within 32, the window's storage
in range, the outcome registers on codes the spec says are written, and the error bits in agreement with
the band codes. -/
def Obligations.EveryStepKeepsTheStateInRange : Prop :=
  ∀ s t : State, s.Inv → step s = .next t → t.Inv

/-- The state after reset is in range, whatever the build. -/
def Obligations.ResetStateIsInRange : Prop :=
  State.reset.Inv ∧ ∀ b : Build, (State.resetOf b).Inv

/-- With the default table, every step keeps the AQI scores that come without an error bit within 0 to
500 (R29), and `COLOR` the colour of the band that `BAND` names (R180); and they are so after reset. Of a
score that comes with the error bit nothing is said (U7). -/
def Obligations.DisplayedColourIsThatOfTheBand : Prop :=
  (∀ s t : State, s.build.bandTable = Config.defaultBandTable →
    ((s.aqi.err = false → s.aqi.val.toNat ≤ 500) ∧
      (s.lookup.aqiErr = false → s.lookup.aqiVal.toNat ≤ 500) ∧
      ∀ k : AqiBand, s.aqi.band = .band k → s.aqi.color = s.build.colorTable.get k) →
    step s = .next t →
      (t.aqi.err = false → t.aqi.val.toNat ≤ 500) ∧
        (t.lookup.aqiErr = false → t.lookup.aqiVal.toNat ≤ 500) ∧
        ∀ k : AqiBand, t.aqi.band = .band k → t.aqi.color = t.build.colorTable.get k) ∧
    ∀ b : Build, (State.resetOf b).aqi.val.toNat ≤ 500 ∧ (State.resetOf b).lookup.aqiVal.toNat ≤ 500 ∧
      ∀ k : AqiBand, (State.resetOf b).aqi.band ≠ .band k

/-! ### Assembly -/

/-- R87: with `CHUNK` empty, `FEED` of at most 32 bytes is one INGEST of a chunk of exactly those bytes,
and `FEEDT` one TICK of it; more than 32 bytes are refused. -/
def Obligations.FeedIsOneIngestOfTheListedBytes : Prop :=
  (∀ (bs : List Nat) (s : State), bs.length ≤ 32 → (∀ b ∈ bs, b < 256) → s.chunk = [] →
    ∃ wsFeed wsFeedT, assemble (.feed bs) = some wsFeed ∧ assemble (.feedT bs) = some wsFeedT ∧
      runWords wsFeed s = exec .ingest { s with chunk := bs.map (BitVec.ofNat 8) } ∧
      runWords wsFeedT s = exec .tick { s with chunk := bs.map (BitVec.ofNat 8) }) ∧
    ∀ bs : List Nat, 32 < bs.length → assemble (.feed bs) = none ∧ assemble (.feedT bs) = none

/-- R86, R87: the words of every kind of line, and what is refused. A format-N line is its one word and
takes no operand; a line of another format is its opcode with the operand, which must be there and in
range; each pseudo-instruction is one word per listed value, in order, and then INGEST for `FEED` and TICK
for `FEEDT`. The words decode to the commands the line stands for. -/
def Obligations.AssembledLinesDecodeToTheirCommands : Prop :=
  (∀ (l : AsmLine) (ws : List Word32), assemble l = some ws → (∀ w, l ≠ .rawWord w) →
    ws.map decode = (lineCommands l).map .ok) ∧
    assemble .comment = some [] ∧
    (∀ w : Nat, assemble (.rawWord w) = if w < 2 ^ 32 then some [BitVec.ofNat 32 w] else none) ∧
    (∀ operand : Option Nat,
      assemble (.command .nop operand) =
        (if operand = none then some [0x00000000#32] else none) ∧
      assemble (.command .ingest operand) =
        (if operand = none then some [0x10000000#32] else none) ∧
      assemble (.command .decode operand) =
        (if operand = none then some [0x20000000#32] else none) ∧
      assemble (.command .tick operand) =
        (if operand = none then some [0x30000000#32] else none) ∧
      assemble (.command .reset operand) =
        (if operand = none then some [0xF0000000#32] else none)) ∧
    assemble (.command .stage none) = none ∧ assemble (.command .avgPush none) = none ∧
    assemble (.command .aqiMap none) = none ∧ assemble (.command .colorMap none) = none ∧
    (∀ b : Nat, assemble (.command .stage (some b)) =
      if b < 256 then some [BitVec.ofNat 32 (0x70000000 + b)] else none) ∧
    (∀ v : Nat, assemble (.command .avgPush (some v)) =
      if v < 65536 then some [BitVec.ofNat 32 (0x40000000 + v)] else none) ∧
    (∀ c : Nat, assemble (.command .aqiMap (some c)) =
      if c < 1048576 then some [BitVec.ofNat 32 (0x50000000 + c)] else none) ∧
    (∀ a : Nat, assemble (.command .colorMap (some a)) =
      if a < 1024 then some [BitVec.ofNat 32 (0x60000000 + a)] else none) ∧
    (∀ bs : List Nat, assemble (.stageN bs) =
      if 1 ≤ bs.length ∧ ∀ b ∈ bs, b < 256 then
        some (bs.map fun b => BitVec.ofNat 32 (0x70000000 + b))
      else none) ∧
    (∀ bs : List Nat, assemble (.feed bs) =
      if bs.length ≤ 32 ∧ ∀ b ∈ bs, b < 256 then
        some ((bs.map fun b => BitVec.ofNat 32 (0x70000000 + b)) ++ [0x10000000#32])
      else none) ∧
    (∀ bs : List Nat, assemble (.feedT bs) =
      if bs.length ≤ 32 ∧ ∀ b ∈ bs, b < 256 then
        some ((bs.map fun b => BitVec.ofNat 32 (0x70000000 + b)) ++ [0x30000000#32])
      else none) ∧
    ∀ vs : List Nat, assemble (.pushN vs) =
      if 1 ≤ vs.length ∧ ∀ v ∈ vs, v < 65536 then
        some (vs.map fun v => BitVec.ofNat 32 (0x40000000 + v))
      else none
end

