-- ==== Sys2Proof/Laws/Asm.lean ====
section
/-! SUPPORT. Laws of the assembler (R86, R87). -/

namespace Sys2Proof.Machine

/-- A well-formed line assembles to its words. -/
theorem assemble_of_wf {l : AsmLine} (h : l.wf = true) : assemble l = some (lineWords l) :=
  if_pos h

/-- An ill-formed line is refused. -/
theorem assemble_of_not_wf {l : AsmLine} (h : l.wf = false) : assemble l = none := by
  simp [assemble, h]

/-- What the check of a list of bytes says. -/
theorem allBytes_iff (bs : List Nat) : allBytes bs = true ↔ ∀ b ∈ bs, b < 256 := by
  simp [allBytes]

/-- Every line but `.word` emits the encodings of its commands. -/
theorem lineWords_eq {l : AsmLine} (h : ∀ w, l ≠ .rawWord w) :
    lineWords l = (lineCommands l).map encode := by
  cases l with
  | rawWord w => exact absurd rfl (h w)
  | _ => rfl

/-- Where the check of a line is a decidable condition `p`, the line assembles under `p` and is refused
otherwise. -/
theorem assemble_eq_ite {l : AsmLine} {p : Prop} [Decidable p] (h : l.wf = true ↔ p) :
    assemble l = if p then some (lineWords l) else none := by
  by_cases hp : p
  · rw [if_pos hp, assemble_of_wf (h.mpr hp)]
  · rw [if_neg hp, assemble_of_not_wf (Bool.eq_false_iff.mpr fun hw => hp (h.mp hw))]

end Sys2Proof.Machine
end

