-- ==== Sys2Proof/Laws/Decode.lean ====
section
/-! SUPPORT. The bit fields of a command word and of an encoding, as arithmetic (R80 to R82). -/

namespace Sys2Proof

/-- `OP` is the word divided by 2^28 (R80). -/
theorem opcodeOf_toNat (w : Word32) : (opcodeOf w).toNat = w.toNat / 2 ^ 28 := by
  have := w.isLt
  simp only [opcodeOf, BitVec.extractLsb_toNat, Nat.shiftRight_eq_div_pow]
  omega

/-- `OP` is a given opcode exactly when the word lies in its range (R80). -/
theorem opcodeOf_eq_iff (w : Word32) (op : BitVec 4) :
    opcodeOf w = op ↔ w.toNat / 2 ^ 28 = op.toNat := by
  rw [← opcodeOf_toNat, BitVec.toNat_inj]

/-- A low field `w[hi:0]` is a remainder (R11). -/
theorem low_toNat (w : Word32) (hi : Nat) :
    (w.extractLsb hi 0).toNat = w.toNat % 2 ^ (hi + 1) := by
  simp [BitVec.extractLsb_toNat]

/-- The reserved bits `w[27:lo]` are 0 exactly when the word, below its opcode, is under 2^lo (R81). -/
theorem reserved_zero_iff (w : Word32) (lo : Nat) :
    w.extractLsb 27 lo = 0 ↔ w.toNat / 2 ^ lo % 2 ^ (27 - lo + 1) = 0 := by
  rw [← BitVec.toNat_inj, BitVec.extractLsb_toNat, Nat.shiftRight_eq_div_pow]
  simp

/-- The reserved-bits tests of the five formats, as arithmetic (R81, R85). -/
theorem requireZero_n (w : Word32) (i : Instr) :
    requireZero w 0 i =
      if w.toNat % 268435456 = 0 then .ok i else .error (.reservedBits (opcodeOf w)) := by
  simp only [requireZero, reserved_zero_iff]
  norm_num only [Nat.div_one]

theorem requireZero_b (w : Word32) (i : Instr) :
    requireZero w 8 i =
      if w.toNat / 256 % 1048576 = 0 then .ok i else .error (.reservedBits (opcodeOf w)) := by
  simp only [requireZero, reserved_zero_iff]
  norm_num only

theorem requireZero_a (w : Word32) (i : Instr) :
    requireZero w 10 i =
      if w.toNat / 1024 % 262144 = 0 then .ok i else .error (.reservedBits (opcodeOf w)) := by
  simp only [requireZero, reserved_zero_iff]
  norm_num only

theorem requireZero_w (w : Word32) (i : Instr) :
    requireZero w 16 i =
      if w.toNat / 65536 % 4096 = 0 then .ok i else .error (.reservedBits (opcodeOf w)) := by
  simp only [requireZero, reserved_zero_iff]
  norm_num only

theorem requireZero_c (w : Word32) (i : Instr) :
    requireZero w 20 i =
      if w.toNat / 1048576 % 256 = 0 then .ok i else .error (.reservedBits (opcodeOf w)) := by
  simp only [requireZero, reserved_zero_iff]
  norm_num only

/-- The decoder's choice by opcode, as arithmetic (R84). -/
theorem decode_eq (w : Word32) :
    decode w =
      if w.toNat / 268435456 = 0 then requireZero w 0 .nop
      else if w.toNat / 268435456 = 1 then requireZero w 0 .ingest
      else if w.toNat / 268435456 = 2 then requireZero w 0 .decode
      else if w.toNat / 268435456 = 3 then requireZero w 0 .tick
      else if w.toNat / 268435456 = 4 then requireZero w 16 (.avgPush (w.extractLsb 15 0))
      else if w.toNat / 268435456 = 5 then requireZero w 20 (.aqiMap (w.extractLsb 19 0))
      else if w.toNat / 268435456 = 6 then requireZero w 10 (.colorMap (w.extractLsb 9 0))
      else if w.toNat / 268435456 = 7 then requireZero w 8 (.stage (w.extractLsb 7 0))
      else if w.toNat / 268435456 = 15 then requireZero w 0 .reset
      else .error (.reservedOpcode (opcodeOf w)) := by
  simp only [decode, opcodeOf_eq_iff]
  rfl

/-- An operand below 2^28 adds to an opcode's pattern: no bit of it meets a bit of the opcode. -/
theorem pattern_or (p n : Nat) (hp : p % 2 ^ 28 = 0) (hn : n < 2 ^ 28) :
    p ||| n % 2 ^ 32 = p + n := by
  obtain ⟨q, rfl⟩ : ∃ q, p = q * 2 ^ 28 := ⟨p / 2 ^ 28, by omega⟩
  rw [Nat.mod_eq_of_lt (by omega), ← Nat.shiftLeft_eq, Nat.shiftLeft_add_eq_or_of_lt hn]

/-- The word of `AVG_PUSH v` (R83). -/
theorem encode_avgPush_toNat (v : Word16) : (encode (.avgPush v)).toNat = 0x40000000 + v.toNat := by
  have h := v.isLt
  simpa [encode] using pattern_or 0x40000000 v.toNat (by decide) (by omega)

/-- The word of `AQI_MAP c` (R83). -/
theorem encode_aqiMap_toNat (c : Conc) : (encode (.aqiMap c)).toNat = 0x50000000 + c.toNat := by
  have h := c.isLt
  simpa [encode] using pattern_or 0x50000000 c.toNat (by decide) (by omega)

/-- The word of `COLOR_MAP a` (R83). -/
theorem encode_colorMap_toNat (a : Score) : (encode (.colorMap a)).toNat = 0x60000000 + a.toNat := by
  have h := a.isLt
  simpa [encode] using pattern_or 0x60000000 a.toNat (by decide) (by omega)

/-- The word of `STAGE b` (R83). -/
theorem encode_stage_toNat (b : Byte) : (encode (.stage b)).toNat = 0x70000000 + b.toNat := by
  have h := b.isLt
  simpa [encode] using pattern_or 0x70000000 b.toNat (by decide) (by omega)

end Sys2Proof
end

