-- ==== Sys2Proof/Laws/State.lean ====
section
/-! SUPPORT. What each register write leaves in each state element: one lemma per element per write. -/

namespace Sys2Proof.Machine

namespace State

variable (s : State)

@[simp] theorem setBuf_build (x : List Byte) : (s.setBuf x).build = s.build := rfl
@[simp] theorem setBuf_buf (x : List Byte) : (s.setBuf x).buf = x := rfl
@[simp] theorem setBuf_chunk (x : List Byte) : (s.setBuf x).chunk = s.chunk := rfl
@[simp] theorem setBuf_record (x : List Byte) : (s.setBuf x).record = s.record := rfl
@[simp] theorem setBuf_window (x : List Byte) : (s.setBuf x).window = s.window := rfl
@[simp] theorem setBuf_ingOut (x : List Byte) : (s.setBuf x).ingOut = s.ingOut := rfl
@[simp] theorem setBuf_decOut (x : List Byte) : (s.setBuf x).decOut = s.decOut := rfl
@[simp] theorem setBuf_ill (x : List Byte) : (s.setBuf x).ill = s.ill := rfl
@[simp] theorem setBuf_stgOvf (x : List Byte) : (s.setBuf x).stgOvf = s.stgOvf := rfl
@[simp] theorem setBuf_aqi (x : List Byte) : (s.setBuf x).aqi = s.aqi := rfl
@[simp] theorem setBuf_lookup (x : List Byte) : (s.setBuf x).lookup = s.lookup := rfl
@[simp] theorem setBuf_inputs (x : List Byte) : (s.setBuf x).inputs = s.inputs := rfl
@[simp] theorem setBuf_rdAddr (x : List Byte) : (s.setBuf x).rdAddr = s.rdAddr := rfl

@[simp] theorem setChunk_build (x : List Byte) : (s.setChunk x).build = s.build := rfl
@[simp] theorem setChunk_buf (x : List Byte) : (s.setChunk x).buf = s.buf := rfl
@[simp] theorem setChunk_chunk (x : List Byte) : (s.setChunk x).chunk = x := rfl
@[simp] theorem setChunk_record (x : List Byte) : (s.setChunk x).record = s.record := rfl
@[simp] theorem setChunk_window (x : List Byte) : (s.setChunk x).window = s.window := rfl
@[simp] theorem setChunk_ingOut (x : List Byte) : (s.setChunk x).ingOut = s.ingOut := rfl
@[simp] theorem setChunk_decOut (x : List Byte) : (s.setChunk x).decOut = s.decOut := rfl
@[simp] theorem setChunk_ill (x : List Byte) : (s.setChunk x).ill = s.ill := rfl
@[simp] theorem setChunk_stgOvf (x : List Byte) : (s.setChunk x).stgOvf = s.stgOvf := rfl
@[simp] theorem setChunk_aqi (x : List Byte) : (s.setChunk x).aqi = s.aqi := rfl
@[simp] theorem setChunk_lookup (x : List Byte) : (s.setChunk x).lookup = s.lookup := rfl
@[simp] theorem setChunk_inputs (x : List Byte) : (s.setChunk x).inputs = s.inputs := rfl
@[simp] theorem setChunk_rdAddr (x : List Byte) : (s.setChunk x).rdAddr = s.rdAddr := rfl

@[simp] theorem setRecord_build (x : MeasurementRecord) : (s.setRecord x).build = s.build := rfl
@[simp] theorem setRecord_buf (x : MeasurementRecord) : (s.setRecord x).buf = s.buf := rfl
@[simp] theorem setRecord_chunk (x : MeasurementRecord) : (s.setRecord x).chunk = s.chunk := rfl
@[simp] theorem setRecord_record (x : MeasurementRecord) : (s.setRecord x).record = x := rfl
@[simp] theorem setRecord_window (x : MeasurementRecord) : (s.setRecord x).window = s.window := rfl
@[simp] theorem setRecord_ingOut (x : MeasurementRecord) : (s.setRecord x).ingOut = s.ingOut := rfl
@[simp] theorem setRecord_decOut (x : MeasurementRecord) : (s.setRecord x).decOut = s.decOut := rfl
@[simp] theorem setRecord_ill (x : MeasurementRecord) : (s.setRecord x).ill = s.ill := rfl
@[simp] theorem setRecord_stgOvf (x : MeasurementRecord) : (s.setRecord x).stgOvf = s.stgOvf := rfl
@[simp] theorem setRecord_aqi (x : MeasurementRecord) : (s.setRecord x).aqi = s.aqi := rfl
@[simp] theorem setRecord_lookup (x : MeasurementRecord) : (s.setRecord x).lookup = s.lookup := rfl
@[simp] theorem setRecord_inputs (x : MeasurementRecord) : (s.setRecord x).inputs = s.inputs := rfl
@[simp] theorem setRecord_rdAddr (x : MeasurementRecord) : (s.setRecord x).rdAddr = s.rdAddr := rfl

@[simp] theorem setWindow_build (x : Window) : (s.setWindow x).build = s.build := rfl
@[simp] theorem setWindow_buf (x : Window) : (s.setWindow x).buf = s.buf := rfl
@[simp] theorem setWindow_chunk (x : Window) : (s.setWindow x).chunk = s.chunk := rfl
@[simp] theorem setWindow_record (x : Window) : (s.setWindow x).record = s.record := rfl
@[simp] theorem setWindow_window (x : Window) : (s.setWindow x).window = x := rfl
@[simp] theorem setWindow_ingOut (x : Window) : (s.setWindow x).ingOut = s.ingOut := rfl
@[simp] theorem setWindow_decOut (x : Window) : (s.setWindow x).decOut = s.decOut := rfl
@[simp] theorem setWindow_ill (x : Window) : (s.setWindow x).ill = s.ill := rfl
@[simp] theorem setWindow_stgOvf (x : Window) : (s.setWindow x).stgOvf = s.stgOvf := rfl
@[simp] theorem setWindow_aqi (x : Window) : (s.setWindow x).aqi = s.aqi := rfl
@[simp] theorem setWindow_lookup (x : Window) : (s.setWindow x).lookup = s.lookup := rfl
@[simp] theorem setWindow_inputs (x : Window) : (s.setWindow x).inputs = s.inputs := rfl
@[simp] theorem setWindow_rdAddr (x : Window) : (s.setWindow x).rdAddr = s.rdAddr := rfl

@[simp] theorem setIngOut_build (x : OutcomeCode) : (s.setIngOut x).build = s.build := rfl
@[simp] theorem setIngOut_buf (x : OutcomeCode) : (s.setIngOut x).buf = s.buf := rfl
@[simp] theorem setIngOut_chunk (x : OutcomeCode) : (s.setIngOut x).chunk = s.chunk := rfl
@[simp] theorem setIngOut_record (x : OutcomeCode) : (s.setIngOut x).record = s.record := rfl
@[simp] theorem setIngOut_window (x : OutcomeCode) : (s.setIngOut x).window = s.window := rfl
@[simp] theorem setIngOut_ingOut (x : OutcomeCode) : (s.setIngOut x).ingOut = x := rfl
@[simp] theorem setIngOut_decOut (x : OutcomeCode) : (s.setIngOut x).decOut = s.decOut := rfl
@[simp] theorem setIngOut_ill (x : OutcomeCode) : (s.setIngOut x).ill = s.ill := rfl
@[simp] theorem setIngOut_stgOvf (x : OutcomeCode) : (s.setIngOut x).stgOvf = s.stgOvf := rfl
@[simp] theorem setIngOut_aqi (x : OutcomeCode) : (s.setIngOut x).aqi = s.aqi := rfl
@[simp] theorem setIngOut_lookup (x : OutcomeCode) : (s.setIngOut x).lookup = s.lookup := rfl
@[simp] theorem setIngOut_inputs (x : OutcomeCode) : (s.setIngOut x).inputs = s.inputs := rfl
@[simp] theorem setIngOut_rdAddr (x : OutcomeCode) : (s.setIngOut x).rdAddr = s.rdAddr := rfl

@[simp] theorem setDecOut_build (x : OutcomeCode) : (s.setDecOut x).build = s.build := rfl
@[simp] theorem setDecOut_buf (x : OutcomeCode) : (s.setDecOut x).buf = s.buf := rfl
@[simp] theorem setDecOut_chunk (x : OutcomeCode) : (s.setDecOut x).chunk = s.chunk := rfl
@[simp] theorem setDecOut_record (x : OutcomeCode) : (s.setDecOut x).record = s.record := rfl
@[simp] theorem setDecOut_window (x : OutcomeCode) : (s.setDecOut x).window = s.window := rfl
@[simp] theorem setDecOut_ingOut (x : OutcomeCode) : (s.setDecOut x).ingOut = s.ingOut := rfl
@[simp] theorem setDecOut_decOut (x : OutcomeCode) : (s.setDecOut x).decOut = x := rfl
@[simp] theorem setDecOut_ill (x : OutcomeCode) : (s.setDecOut x).ill = s.ill := rfl
@[simp] theorem setDecOut_stgOvf (x : OutcomeCode) : (s.setDecOut x).stgOvf = s.stgOvf := rfl
@[simp] theorem setDecOut_aqi (x : OutcomeCode) : (s.setDecOut x).aqi = s.aqi := rfl
@[simp] theorem setDecOut_lookup (x : OutcomeCode) : (s.setDecOut x).lookup = s.lookup := rfl
@[simp] theorem setDecOut_inputs (x : OutcomeCode) : (s.setDecOut x).inputs = s.inputs := rfl
@[simp] theorem setDecOut_rdAddr (x : OutcomeCode) : (s.setDecOut x).rdAddr = s.rdAddr := rfl

@[simp] theorem setIll_build : (s.setIll).build = s.build := rfl
@[simp] theorem setIll_buf : (s.setIll).buf = s.buf := rfl
@[simp] theorem setIll_chunk : (s.setIll).chunk = s.chunk := rfl
@[simp] theorem setIll_record : (s.setIll).record = s.record := rfl
@[simp] theorem setIll_window : (s.setIll).window = s.window := rfl
@[simp] theorem setIll_ingOut : (s.setIll).ingOut = s.ingOut := rfl
@[simp] theorem setIll_decOut : (s.setIll).decOut = s.decOut := rfl
@[simp] theorem setIll_ill : (s.setIll).ill = true := rfl
@[simp] theorem setIll_stgOvf : (s.setIll).stgOvf = s.stgOvf := rfl
@[simp] theorem setIll_aqi : (s.setIll).aqi = s.aqi := rfl
@[simp] theorem setIll_lookup : (s.setIll).lookup = s.lookup := rfl
@[simp] theorem setIll_inputs : (s.setIll).inputs = s.inputs := rfl
@[simp] theorem setIll_rdAddr : (s.setIll).rdAddr = s.rdAddr := rfl

@[simp] theorem setStgOvf_build : (s.setStgOvf).build = s.build := rfl
@[simp] theorem setStgOvf_buf : (s.setStgOvf).buf = s.buf := rfl
@[simp] theorem setStgOvf_chunk : (s.setStgOvf).chunk = s.chunk := rfl
@[simp] theorem setStgOvf_record : (s.setStgOvf).record = s.record := rfl
@[simp] theorem setStgOvf_window : (s.setStgOvf).window = s.window := rfl
@[simp] theorem setStgOvf_ingOut : (s.setStgOvf).ingOut = s.ingOut := rfl
@[simp] theorem setStgOvf_decOut : (s.setStgOvf).decOut = s.decOut := rfl
@[simp] theorem setStgOvf_ill : (s.setStgOvf).ill = s.ill := rfl
@[simp] theorem setStgOvf_stgOvf : (s.setStgOvf).stgOvf = true := rfl
@[simp] theorem setStgOvf_aqi : (s.setStgOvf).aqi = s.aqi := rfl
@[simp] theorem setStgOvf_lookup : (s.setStgOvf).lookup = s.lookup := rfl
@[simp] theorem setStgOvf_inputs : (s.setStgOvf).inputs = s.inputs := rfl
@[simp] theorem setStgOvf_rdAddr : (s.setStgOvf).rdAddr = s.rdAddr := rfl

@[simp] theorem setAqi_build (x : AqiRegs) : (s.setAqi x).build = s.build := rfl
@[simp] theorem setAqi_buf (x : AqiRegs) : (s.setAqi x).buf = s.buf := rfl
@[simp] theorem setAqi_chunk (x : AqiRegs) : (s.setAqi x).chunk = s.chunk := rfl
@[simp] theorem setAqi_record (x : AqiRegs) : (s.setAqi x).record = s.record := rfl
@[simp] theorem setAqi_window (x : AqiRegs) : (s.setAqi x).window = s.window := rfl
@[simp] theorem setAqi_ingOut (x : AqiRegs) : (s.setAqi x).ingOut = s.ingOut := rfl
@[simp] theorem setAqi_decOut (x : AqiRegs) : (s.setAqi x).decOut = s.decOut := rfl
@[simp] theorem setAqi_ill (x : AqiRegs) : (s.setAqi x).ill = s.ill := rfl
@[simp] theorem setAqi_stgOvf (x : AqiRegs) : (s.setAqi x).stgOvf = s.stgOvf := rfl
@[simp] theorem setAqi_aqi (x : AqiRegs) : (s.setAqi x).aqi = x := rfl
@[simp] theorem setAqi_lookup (x : AqiRegs) : (s.setAqi x).lookup = s.lookup := rfl
@[simp] theorem setAqi_inputs (x : AqiRegs) : (s.setAqi x).inputs = s.inputs := rfl
@[simp] theorem setAqi_rdAddr (x : AqiRegs) : (s.setAqi x).rdAddr = s.rdAddr := rfl

@[simp] theorem setLookup_build (x : LookupRegs) : (s.setLookup x).build = s.build := rfl
@[simp] theorem setLookup_buf (x : LookupRegs) : (s.setLookup x).buf = s.buf := rfl
@[simp] theorem setLookup_chunk (x : LookupRegs) : (s.setLookup x).chunk = s.chunk := rfl
@[simp] theorem setLookup_record (x : LookupRegs) : (s.setLookup x).record = s.record := rfl
@[simp] theorem setLookup_window (x : LookupRegs) : (s.setLookup x).window = s.window := rfl
@[simp] theorem setLookup_ingOut (x : LookupRegs) : (s.setLookup x).ingOut = s.ingOut := rfl
@[simp] theorem setLookup_decOut (x : LookupRegs) : (s.setLookup x).decOut = s.decOut := rfl
@[simp] theorem setLookup_ill (x : LookupRegs) : (s.setLookup x).ill = s.ill := rfl
@[simp] theorem setLookup_stgOvf (x : LookupRegs) : (s.setLookup x).stgOvf = s.stgOvf := rfl
@[simp] theorem setLookup_aqi (x : LookupRegs) : (s.setLookup x).aqi = s.aqi := rfl
@[simp] theorem setLookup_lookup (x : LookupRegs) : (s.setLookup x).lookup = x := rfl
@[simp] theorem setLookup_inputs (x : LookupRegs) : (s.setLookup x).inputs = s.inputs := rfl
@[simp] theorem setLookup_rdAddr (x : LookupRegs) : (s.setLookup x).rdAddr = s.rdAddr := rfl

@[simp] theorem setInputs_build (x : List PortInput) : (s.setInputs x).build = s.build := rfl
@[simp] theorem setInputs_buf (x : List PortInput) : (s.setInputs x).buf = s.buf := rfl
@[simp] theorem setInputs_chunk (x : List PortInput) : (s.setInputs x).chunk = s.chunk := rfl
@[simp] theorem setInputs_record (x : List PortInput) : (s.setInputs x).record = s.record := rfl
@[simp] theorem setInputs_window (x : List PortInput) : (s.setInputs x).window = s.window := rfl
@[simp] theorem setInputs_ingOut (x : List PortInput) : (s.setInputs x).ingOut = s.ingOut := rfl
@[simp] theorem setInputs_decOut (x : List PortInput) : (s.setInputs x).decOut = s.decOut := rfl
@[simp] theorem setInputs_ill (x : List PortInput) : (s.setInputs x).ill = s.ill := rfl
@[simp] theorem setInputs_stgOvf (x : List PortInput) : (s.setInputs x).stgOvf = s.stgOvf := rfl
@[simp] theorem setInputs_aqi (x : List PortInput) : (s.setInputs x).aqi = s.aqi := rfl
@[simp] theorem setInputs_lookup (x : List PortInput) : (s.setInputs x).lookup = s.lookup := rfl
@[simp] theorem setInputs_inputs (x : List PortInput) : (s.setInputs x).inputs = x := rfl
@[simp] theorem setInputs_rdAddr (x : List PortInput) : (s.setInputs x).rdAddr = s.rdAddr := rfl

@[simp] theorem setRdAddr_build (x : RegAddr) : (s.setRdAddr x).build = s.build := rfl
@[simp] theorem setRdAddr_buf (x : RegAddr) : (s.setRdAddr x).buf = s.buf := rfl
@[simp] theorem setRdAddr_chunk (x : RegAddr) : (s.setRdAddr x).chunk = s.chunk := rfl
@[simp] theorem setRdAddr_record (x : RegAddr) : (s.setRdAddr x).record = s.record := rfl
@[simp] theorem setRdAddr_window (x : RegAddr) : (s.setRdAddr x).window = s.window := rfl
@[simp] theorem setRdAddr_ingOut (x : RegAddr) : (s.setRdAddr x).ingOut = s.ingOut := rfl
@[simp] theorem setRdAddr_decOut (x : RegAddr) : (s.setRdAddr x).decOut = s.decOut := rfl
@[simp] theorem setRdAddr_ill (x : RegAddr) : (s.setRdAddr x).ill = s.ill := rfl
@[simp] theorem setRdAddr_stgOvf (x : RegAddr) : (s.setRdAddr x).stgOvf = s.stgOvf := rfl
@[simp] theorem setRdAddr_aqi (x : RegAddr) : (s.setRdAddr x).aqi = s.aqi := rfl
@[simp] theorem setRdAddr_lookup (x : RegAddr) : (s.setRdAddr x).lookup = s.lookup := rfl
@[simp] theorem setRdAddr_inputs (x : RegAddr) : (s.setRdAddr x).inputs = s.inputs := rfl
@[simp] theorem setRdAddr_rdAddr (x : RegAddr) : (s.setRdAddr x).rdAddr = x := rfl

/-! Writing an element twice keeps the last value. -/

@[simp] theorem setBuf_setBuf (x y : List Byte) : (s.setBuf x).setBuf y = s.setBuf y := rfl
@[simp] theorem setChunk_setChunk (x y : List Byte) : (s.setChunk x).setChunk y = s.setChunk y := rfl
@[simp] theorem setRecord_setRecord (x y : MeasurementRecord) : (s.setRecord x).setRecord y = s.setRecord y := rfl
@[simp] theorem setWindow_setWindow (x y : Window) : (s.setWindow x).setWindow y = s.setWindow y := rfl
@[simp] theorem setIngOut_setIngOut (x y : OutcomeCode) : (s.setIngOut x).setIngOut y = s.setIngOut y := rfl
@[simp] theorem setDecOut_setDecOut (x y : OutcomeCode) : (s.setDecOut x).setDecOut y = s.setDecOut y := rfl
@[simp] theorem setIll_setIll : s.setIll.setIll = s.setIll := rfl
@[simp] theorem setStgOvf_setStgOvf : s.setStgOvf.setStgOvf = s.setStgOvf := rfl
@[simp] theorem setAqi_setAqi (x y : AqiRegs) : (s.setAqi x).setAqi y = s.setAqi y := rfl
@[simp] theorem setLookup_setLookup (x y : LookupRegs) : (s.setLookup x).setLookup y = s.setLookup y := rfl
@[simp] theorem setInputs_setInputs (x y : List PortInput) : (s.setInputs x).setInputs y = s.setInputs y := rfl
@[simp] theorem setRdAddr_setRdAddr (x y : RegAddr) : (s.setRdAddr x).setRdAddr y = s.setRdAddr y := rfl

/-! Writing an element's own value changes nothing. -/

@[simp] theorem setBuf_self : s.setBuf s.buf = s := rfl
@[simp] theorem setChunk_self : s.setChunk s.chunk = s := rfl
@[simp] theorem setRecord_self : s.setRecord s.record = s := rfl
@[simp] theorem setWindow_self : s.setWindow s.window = s := rfl
@[simp] theorem setIngOut_self : s.setIngOut s.ingOut = s := rfl
@[simp] theorem setDecOut_self : s.setDecOut s.decOut = s := rfl
@[simp] theorem setAqi_self : s.setAqi s.aqi = s := rfl
@[simp] theorem setLookup_self : s.setLookup s.lookup = s := rfl
@[simp] theorem setInputs_self : s.setInputs s.inputs = s := rfl
@[simp] theorem setRdAddr_self : s.setRdAddr s.rdAddr = s := rfl

end State

end Sys2Proof.Machine
end

