-- ==== Sys2Proof/Laws/Mapper.lean ====
section
/-! SUPPORT. Laws of the AQI mapper (R171, R172, R175, R176). -/

namespace Sys2Proof.Machine

/-- The band code carried by an AQI lookup is the concentration's band (R172). -/
@[simp] theorem aqiOf_band (b : Build) (c : Conc) : (aqiOf b c).2 = bandOf b c := by
  unfold aqiOf bandOf
  cases findByConc b.bandTable c.toNat <;> rfl

/-- A scan finds a band or none, never the code NONE (R171). -/
theorem bandCodeOf_ne_none (k : Option AqiBand) : bandCodeOf k ≠ .none := by
  cases k <;> simp [bandCodeOf]

/-- A found row contains the concentration (R171). -/
theorem findByConc_some {t : PerBand BandRow} {c : Nat} {k : AqiBand}
    (h : findByConc t c = some k) : (t.get k).cLo ≤ c ∧ c ≤ (t.get k).cHi := by
  simpa [rowHoldsConc] using List.find?_some h

/-- A found row contains the score (R175). -/
theorem findByScore_some {t : PerBand BandRow} {a : Nat} {k : AqiBand}
    (h : findByScore t a = some k) : (t.get k).iLo ≤ a ∧ a ≤ (t.get k).iHi := by
  simpa [rowHoldsScore] using List.find?_some h

/-- Interpolation at a concentration of the row stays in the row's AQI interval (R172). -/
theorem interpolate_bounds (r : BandRow) (c : Nat) (lo : r.cLo ≤ c) (hi : c ≤ r.cHi) :
    r.iLo ≤ interpolate r c ∧ interpolate r c ≤ r.iHi := by
  have hc := r.cOrdered
  have hi' := r.iOrdered
  have key : (r.iHi - r.iLo) * (c - r.cLo) / (r.cHi - r.cLo) ≤ r.iHi - r.iLo := by
    apply Nat.div_le_of_le_mul
    rw [Nat.mul_comm]
    exact Nat.mul_le_mul_right _ (by omega)
  unfold interpolate
  generalize (r.iHi - r.iLo) * (c - r.cLo) / (r.cHi - r.cLo) = q at key
  omega

/-- The pipeline's registers after an update: unchanged, or those of the reported average (R176). -/
theorem aqiAfter_cases (b : Build) (w : Window) (old : AqiRegs) :
    ((averagerState b w).reported = true ∧ aqiAfter b w old = aqiRegsFor b (averageX10 b w)) ∨
      ((averagerState b w).reported = false ∧ aqiAfter b w old = old) := by
  unfold aqiAfter
  cases h : (averagerState b w).reported
  · exact .inr ⟨rfl, by simp⟩
  · exact .inl ⟨rfl, by simp⟩

/-- The scan by concentration over the default table, as one chain of bounds (R170, R171). -/
theorem findByConc_default (c : Nat) :
    findByConc Config.defaultBandTable c =
      if c ≤ 120 then some .good
      else if c ≤ 354 then some .moderate
      else if c ≤ 554 then some .unhealthy1
      else if c ≤ 1504 then some .unhealthy2
      else if c ≤ 2504 then some .unhealthy3
      else if c ≤ 5004 then some .hazardous
      else none := by
  have good : rowHoldsConc (Config.defaultBandTable.get .good) c =
      (decide (0 ≤ c) && decide (c ≤ 120)) := rfl
  have moderate : rowHoldsConc (Config.defaultBandTable.get .moderate) c =
      (decide (121 ≤ c) && decide (c ≤ 354)) := rfl
  have unhealthy1 : rowHoldsConc (Config.defaultBandTable.get .unhealthy1) c =
      (decide (355 ≤ c) && decide (c ≤ 554)) := rfl
  have unhealthy2 : rowHoldsConc (Config.defaultBandTable.get .unhealthy2) c =
      (decide (555 ≤ c) && decide (c ≤ 1504)) := rfl
  have unhealthy3 : rowHoldsConc (Config.defaultBandTable.get .unhealthy3) c =
      (decide (1505 ≤ c) && decide (c ≤ 2504)) := rfl
  have hazardous : rowHoldsConc (Config.defaultBandTable.get .hazardous) c =
      (decide (2505 ≤ c) && decide (c ≤ 5004)) := rfl
  simp only [findByConc, allBands, List.find?_cons, List.find?_nil, good, moderate, unhealthy1,
    unhealthy2, unhealthy3, hazardous]
  repeat' split
  all_goals first
    | rfl
    | (exfalso
       simp only [Bool.and_eq_true, Bool.and_eq_false_iff, decide_eq_true_eq,
         decide_eq_false_iff_not] at *
       omega)

/-- The scan by AQI value over the default table, as one chain of bounds (R170, R175). -/
theorem findByScore_default (a : Nat) :
    findByScore Config.defaultBandTable a =
      if a ≤ 50 then some .good
      else if a ≤ 100 then some .moderate
      else if a ≤ 150 then some .unhealthy1
      else if a ≤ 200 then some .unhealthy2
      else if a ≤ 300 then some .unhealthy3
      else if a ≤ 500 then some .hazardous
      else none := by
  have good : rowHoldsScore (Config.defaultBandTable.get .good) a =
      (decide (0 ≤ a) && decide (a ≤ 50)) := rfl
  have moderate : rowHoldsScore (Config.defaultBandTable.get .moderate) a =
      (decide (51 ≤ a) && decide (a ≤ 100)) := rfl
  have unhealthy1 : rowHoldsScore (Config.defaultBandTable.get .unhealthy1) a =
      (decide (101 ≤ a) && decide (a ≤ 150)) := rfl
  have unhealthy2 : rowHoldsScore (Config.defaultBandTable.get .unhealthy2) a =
      (decide (151 ≤ a) && decide (a ≤ 200)) := rfl
  have unhealthy3 : rowHoldsScore (Config.defaultBandTable.get .unhealthy3) a =
      (decide (201 ≤ a) && decide (a ≤ 300)) := rfl
  have hazardous : rowHoldsScore (Config.defaultBandTable.get .hazardous) a =
      (decide (301 ≤ a) && decide (a ≤ 500)) := rfl
  simp only [findByScore, allBands, List.find?_cons, List.find?_nil, good, moderate, unhealthy1,
    unhealthy2, unhealthy3, hazardous]
  repeat' split
  all_goals first
    | rfl
    | (exfalso
       simp only [Bool.and_eq_true, Bool.and_eq_false_iff, decide_eq_true_eq,
         decide_eq_false_iff_not] at *
       omega)

end Sys2Proof.Machine
end

