-- ==== Sys2Proof/Laws/Ops.lean ====
section
/-! SUPPORT. One law per shared operation: all it can do. -/

namespace Sys2Proof.Machine

/-! ### Alignment (R66, R103) -/

@[simp] theorem alignBytes_nil : alignBytes [] = [] := rfl

/-- A sequence that begins with the header byte is aligned already. -/
@[simp] theorem alignBytes_header (bs : List Byte) :
    alignBytes (0x42#8 :: bs) = 0x42#8 :: bs := rfl

/-- A leading byte that is not the header byte is discarded. -/
theorem alignBytes_junk (b : Byte) (bs : List Byte) (h : b ≠ 0x42#8) :
    alignBytes (b :: bs) = alignBytes bs := by
  simp [alignBytes, Config.hdrA, h]

/-- An aligned sequence is empty or begins with the header byte. -/
theorem alignBytes_cases (bs : List Byte) :
    alignBytes bs = [] ∨ ∃ rest, alignBytes bs = 0x42#8 :: rest := by
  induction bs with
  | nil => exact .inl rfl
  | cons b bs ih =>
    by_cases h : b = 0x42#8
    · exact .inr ⟨bs, by rw [h, alignBytes_header]⟩
    · rwa [alignBytes_junk b bs h]

/-- Alignment twice is alignment once. -/
@[simp] theorem alignBytes_alignBytes (bs : List Byte) :
    alignBytes (alignBytes bs) = alignBytes bs := by
  obtain h | ⟨rest, h⟩ := alignBytes_cases bs <;> simp [h]

/-- Alignment never lengthens a sequence. -/
theorem alignBytes_length_le (bs : List Byte) : (alignBytes bs).length ≤ bs.length := by
  induction bs with
  | nil => exact Nat.le_refl 0
  | cons b bs ih =>
    by_cases h : b = 0x42#8
    · rw [h, alignBytes_header]
    · rw [alignBytes_junk b bs h]
      exact Nat.le_succ_of_le ih

/-! ### Staging and ingesting (R100, R102) -/

/-- STAGE either appends the byte or sets the overflow bit. -/
theorem stageByte_cases (s : State) (b : Byte) :
    (s.chunk.length < 32 ∧ stageByte s b = s.setChunk (s.chunk ++ [b])) ∨
      (32 ≤ s.chunk.length ∧ stageByte s b = s.setStgOvf) := by
  unfold stageByte
  split
  · exact .inl ⟨‹_›, rfl⟩
  · exact .inr ⟨Nat.le_of_not_lt ‹_›, rfl⟩

/-- The three outcomes of an ingest, by the length of the aligned buffer. -/
theorem ingestPhase_cases (s : State) :
    (200 < (alignBytes (s.buf ++ s.chunk)).length ∧
      ingestPhase s = ((s.setChunk []).setBuf []).setIngOut .capOverrun) ∨
    ((alignBytes (s.buf ++ s.chunk)).length < 32 ∧
      ingestPhase s =
        ((s.setChunk []).setBuf (alignBytes (s.buf ++ s.chunk))).setIngOut .insufficient) ∨
    (32 ≤ (alignBytes (s.buf ++ s.chunk)).length ∧ (alignBytes (s.buf ++ s.chunk)).length ≤ 200 ∧
      ingestPhase s =
        ((s.setChunk []).setBuf (alignBytes (s.buf ++ s.chunk))).setIngOut .ready) := by
  have key : ((s.append s.chunk).setChunk []).align.buf = alignBytes (s.buf ++ s.chunk) := rfl
  unfold ingestPhase capCheck
  simp only [key, Config.bufCap, Config.frameLen]
  split
  · exact .inl ⟨‹_›, rfl⟩
  · split
    · exact .inr (.inl ⟨‹_›, rfl⟩)
    · exact .inr (.inr ⟨by omega, by omega, rfl⟩)

/-! ### Decoding (R120) -/

/-- The five outcomes of DECODE, in the order in which R129 checks them; `b` is the aligned buffer and
its first 32 bytes are the candidate window. -/
theorem decodePhase_cases (s : State) (b : List Byte) (hb : b = alignBytes s.buf) :
    (b.length < 32 ∧ decodePhase s = (s.setBuf b).setDecOut .insufficient) ∨
    (32 ≤ b.length ∧ byteAt (b.take 32) 1 ≠ 0x4D#8 ∧
      decodePhase s = (s.setBuf (b.drop 1)).setDecOut .badHeader) ∨
    (32 ≤ b.length ∧ byteAt (b.take 32) 1 = 0x4D#8 ∧ fieldAt (b.take 32) 2 ≠ 28#16 ∧
      decodePhase s = (s.setBuf []).setDecOut .badLength) ∨
    (32 ≤ b.length ∧ byteAt (b.take 32) 1 = 0x4D#8 ∧ fieldAt (b.take 32) 2 = 28#16 ∧
      byteSum (b.take 32) ≠ fieldAt (b.take 32) 30 ∧
      decodePhase s = (s.setBuf []).setDecOut .checksum) ∨
    (32 ≤ b.length ∧ byteAt (b.take 32) 1 = 0x4D#8 ∧ fieldAt (b.take 32) 2 = 28#16 ∧
      byteSum (b.take 32) = fieldAt (b.take 32) 30 ∧
      decodePhase s =
        acceptReading (((s.setBuf (b.drop 32)).setRecord (frameRecord (b.take 32))).setDecOut .ok)
          (frameRecord (b.take 32)).pm25Env) := by
  subst hb
  have key : s.align.buf = alignBytes s.buf := rfl
  unfold decodePhase decodeAligned checkFrame State.snapshot
  simp only [key, Config.frameLen, Config.hdrB, Config.lenValue]
  split
  · exact .inl ⟨‹_›, rfl⟩
  have len : 32 ≤ (alignBytes s.buf).length := by omega
  split
  · exact .inr (.inl ⟨len, ‹_›, rfl⟩)
  split
  · exact .inr (.inr (.inl ⟨len, not_ne_iff.mp ‹_›, ‹_›, rfl⟩))
  split
  · exact .inr (.inr (.inr (.inl ⟨len, not_ne_iff.mp ‹_›, not_ne_iff.mp ‹_›, ‹_›, rfl⟩)))
  · exact .inr (.inr (.inr (.inr
      ⟨len, not_ne_iff.mp ‹_›, not_ne_iff.mp ‹_›, not_ne_iff.mp ‹_›, rfl⟩)))

/-- A reading that enters the pipeline writes the window and the AQI registers, and nothing else. -/
theorem acceptReading_eq (s : State) (v : Word16) :
    acceptReading s v =
      (s.setWindow (s.window.push (windowLen s.build) v)).setAqi
        (aqiAfter s.build (s.window.push (windowLen s.build) v) s.aqi) := rfl

end Sys2Proof.Machine
end

