-- ==== Sys2Proof/Laws/PerInstr.lean ====
section
/-! SUPPORT. What is said of every command as syntax, one lemma per constructor. -/

namespace Sys2Proof.Laws.RowOfMap

/-- The opcode map has a row for the command, under its mnemonic, and that row selects the command's
word (R83). -/
def Statement (i : Instr) : Prop :=
  ∃ r ∈ opcodeMap, r.mnemonic = i.mnemonic ∧ encode i &&& r.mask = r.pattern

theorem nop : Statement .nop := ⟨⟨.nop, 0x0, 0x00000000, 0xFFFFFFFF⟩, by decide, rfl, by decide⟩

theorem ingest : Statement .ingest :=
  ⟨⟨.ingest, 0x1, 0x10000000, 0xFFFFFFFF⟩, by decide, rfl, by decide⟩

theorem decode : Statement .decode :=
  ⟨⟨.decode, 0x2, 0x20000000, 0xFFFFFFFF⟩, by decide, rfl, by decide⟩

theorem tick : Statement .tick :=
  ⟨⟨.tick, 0x3, 0x30000000, 0xFFFFFFFF⟩, by decide, rfl, by decide⟩

theorem avgPush (v : Word16) : Statement (.avgPush v) := by
  refine ⟨⟨.avgPush, 0x4, 0x40000000, 0xFFFF0000⟩, by decide, rfl, ?_⟩
  apply BitVec.eq_of_getLsbD_eq
  intro k hk
  interval_cases k <;> simp [encode]

theorem aqiMap (c : Conc) : Statement (.aqiMap c) := by
  refine ⟨⟨.aqiMap, 0x5, 0x50000000, 0xFFF00000⟩, by decide, rfl, ?_⟩
  apply BitVec.eq_of_getLsbD_eq
  intro k hk
  interval_cases k <;> simp [encode]

theorem colorMap (a : Score) : Statement (.colorMap a) := by
  refine ⟨⟨.colorMap, 0x6, 0x60000000, 0xFFFFFC00⟩, by decide, rfl, ?_⟩
  apply BitVec.eq_of_getLsbD_eq
  intro k hk
  interval_cases k <;> simp [encode]

theorem stage (b : Byte) : Statement (.stage b) := by
  refine ⟨⟨.stage, 0x7, 0x70000000, 0xFFFFFF00⟩, by decide, rfl, ?_⟩
  apply BitVec.eq_of_getLsbD_eq
  intro k hk
  interval_cases k <;> simp [encode]

theorem reset : Statement .reset :=
  ⟨⟨.reset, 0xF, 0xF0000000, 0xFFFFFFFF⟩, by decide, rfl, by decide⟩

end Sys2Proof.Laws.RowOfMap
end

