-- ==== Sys2Proof/Laws/Step.lean ====
section
/-! SUPPORT. What reset leaves, what an accepted word does, and what a step does: each said once. -/

namespace Sys2Proof.Machine

/-- Reset keeps the build (R191). -/
@[simp] theorem restart_build (s : State) : s.restart.build = s.build := rfl

/-- Reset keeps what the host will do. -/
@[simp] theorem restart_inputs (s : State) : s.restart.inputs = s.inputs := rfl

/-- Reset keeps the host's `rd_addr`. -/
@[simp] theorem restart_rdAddr (s : State) : s.restart.rdAddr = s.rdAddr := rfl

/-- Every other field has the value of a chip of that build after reset. -/
theorem restart_eq (s : State) :
    s.restart = ((State.resetOf s.build).setInputs s.inputs).setRdAddr s.rdAddr := rfl

/-- Every command answers a next state. -/
theorem exec_next (i : Instr) (s : State) : ∃ t, exec i s = .next t := by
  cases i <;> exact ⟨_, rfl⟩

/-- An accepted word runs its command, or sets `ILL` (R85, R192, R193). -/
theorem acceptWord_cases (w : Word32) (s : State) :
    (∃ i, decode w = .ok i ∧ acceptWord w s = exec i s) ∨
      (∃ e, decode w = .error e ∧ acceptWord w s = .next s.setIll) := by
  unfold acceptWord
  cases h : decode w with
  | ok i => exact .inl ⟨i, rfl, rfl⟩
  | error e => exact .inr ⟨e, rfl, rfl⟩

/-- All that a step can do: nothing, a word, a reset, or a new `rd_addr`. -/
theorem step_cases (s : State) :
    (s.inputs = [] ∧ step s = .next s) ∨
      ∃ p rest, s.inputs = p :: rest ∧
        ((∃ w, p = .command w ∧ step s = acceptWord w (s.setInputs rest)) ∨
          (p = .resetPulse ∧ step s = .next (s.setInputs rest).restart) ∨
          ∃ a, p = .readAddr a ∧ step s = .next ((s.setInputs rest).setRdAddr a)) := by
  cases h : s.inputs with
  | nil => exact .inl ⟨rfl, by simp only [step, h]⟩
  | cons p rest =>
    refine .inr ⟨p, rest, rfl, ?_⟩
    cases p with
    | command w => exact .inl ⟨w, rfl, by simp only [step, h, serve]⟩
    | resetPulse => exact .inr (.inl ⟨rfl, by simp only [step, h, serve]⟩)
    | readAddr a => exact .inr (.inr ⟨a, rfl, by simp only [step, h, serve]⟩)

end Sys2Proof.Machine
end

