-- ==== Sys2Proof/Laws/Window.lean ====
section
/-! SUPPORT. Laws of the rolling window (R26, R151 to R155). -/

namespace Sys2Proof.Machine

/-- A window has `WIN_COUNT` entries. -/
@[simp] theorem Window.contents_length (n : Nat) (w : Window) :
    (w.contents n).length = w.count := by
  simp [Window.contents]

/-- `WINDOW_N` is 20 or 30 (R8). -/
theorem windowLen_cases (b : Build) : windowLen b = 20 ∨ windowLen b = 30 := by
  unfold windowLen
  cases b.windowN
  · exact .inl rfl
  · exact .inr rfl

/-- A push into a window that is not full. -/
theorem Window.push_filling (n : Nat) (w : Window) (v : Word16) (h : w.count < n) :
    w.push n v =
      { mem := w.mem.set ((w.head + w.count) % n) v, head := w.head, count := w.count + 1 } := by
  simp [Window.push, h]

/-- A push into a full window. -/
theorem Window.push_full (n : Nat) (w : Window) (v : Word16) (h : ¬w.count < n) :
    w.push n v = { mem := w.mem.set w.head v, head := (w.head + 1) % n, count := w.count } := by
  simp [Window.push, h]

/-- A push keeps the storage in range (R26). -/
theorem Window.push_inRange (n : Nat) (w : Window) (v : Word16) (h : w.InRange n) :
    (w.push n v).InRange n := by
  obtain ⟨hm, hh, hc⟩ := h
  by_cases hf : w.count < n
  · rw [Window.push_filling n w v hf]
    exact ⟨by simpa using hm, hh, hf⟩
  · rw [Window.push_full n w v hf]
    exact ⟨by simpa using hm, Nat.mod_lt _ (by omega), hc⟩

/-- After a push the window is never empty. -/
theorem Window.push_count_pos (n : Nat) (w : Window) (v : Word16) (h : 0 < n) :
    0 < (w.push n v).count := by
  by_cases hf : w.count < n
  · rw [Window.push_filling n w v hf]
    exact Nat.succ_pos _
  · rw [Window.push_full n w v hf]
    exact Nat.lt_of_lt_of_le h (Nat.le_of_not_lt hf)

/-- A sum of 16-bit readings is at most 65535 for each of them. -/
theorem sum_readings_le (l : List Word16) : (l.map BitVec.toNat).sum ≤ l.length * 65535 := by
  induction l with
  | nil => exact Nat.le_refl 0
  | cons v l ih =>
    have hv : v.toNat ≤ 65535 := Nat.le_of_lt_succ v.isLt
    simp only [List.map_cons, List.sum_cons, List.length_cons]
    omega

/-- An average is reported exactly in the states FILLING and FULL (R155). -/
theorem AvgState.reported_iff (a : AvgState) : a.reported = true ↔ a = .filling ∨ a = .full := by
  cases a <;> simp [AvgState.reported]

end Sys2Proof.Machine
end

