-- ==== Sys2Proof/Tests/Slice0.lean ====
section
/-! SUPPORT. Tests. Every expected value is from spec/95_test_vectors.md (its row is named), or from the
rule named; none is the model's own answer. Then one witness for the hypotheses of each statement. -/

namespace Sys2Proof.Tests

open Sys2Proof.Machine

/-! ### Helpers -/

/-- The next state, where there is one. -/
def nextState (o : Host.Outcome State Fault Refusal) : Option State :=
  match o with
  | .next t => some t
  | .fault _ => none
  | .refused _ => none

/-- The registers at these addresses after the block accepts the word. -/
def readsAfter (w : Word32) (s : State) (addrs : List RegAddr) : Option (List Word32) :=
  (nextState (acceptWord w s)).map fun t => addrs.map fun a => regRead t a

/-- After reset, with these bytes in `BUF` and these in `CHUNK`. -/
def holding (buf chunk : List Byte) : State := (State.reset.setBuf buf).setChunk chunk

/-- Frame A of spec/95_test_vectors.md, section 0. -/
def frameA : List Byte :=
  [0x42, 0x4D, 0x00, 0x1C, 0x00, 0x05, 0x00, 0x0C, 0x00, 0x0F, 0x00, 0x05, 0x00, 0x0C, 0x00, 0x0F,
   0x04, 0xB0, 0x01, 0x5E, 0x00, 0x50, 0x00, 0x06, 0x00, 0x02, 0x00, 0x00, 0x97, 0x00, 0x02, 0xED]

/-- Frame M: every field 65535. -/
def frameM : List Byte := [0x42, 0x4D, 0x00, 0x1C] ++ List.replicate 26 0xFF ++ [0x1A, 0x91]

/-- A window of 20 that holds the readings 6 to 25, pushed after 1 to 5 (vector V10). -/
def windowV10 : Window :=
  ⟨[21, 22, 23, 24, 25, 6, 7, 8, 9, 10, 11, 12, 13, 14, 15, 16, 17, 18, 19, 20], 5, 20⟩

/-- A build that reports "calculating" instead of a partial average. -/
def sentinelBuild : Build := Config.defaultTablesBuild .twenty false

/-! ### Decoding: words written out from R81 and R83 -/

theorem test_decode_nop : decode 0b00000000000000000000000000000000#32 = .ok .nop := by decide

theorem test_decode_ingest : decode 0b00010000000000000000000000000000#32 = .ok .ingest := by decide

theorem test_decode_decode : decode 0b00100000000000000000000000000000#32 = .ok .decode := by decide

theorem test_decode_tick : decode 0b00110000000000000000000000000000#32 = .ok .tick := by decide

theorem test_decode_avgPush :
    decode 0b01000000000000001100000000000101#32 = .ok (.avgPush 0xC005#16) := by decide

theorem test_decode_aqiMap :
    decode 0b01010000000011000000000000000101#32 = .ok (.aqiMap 0xC0005#20) := by decide

theorem test_decode_colorMap :
    decode 0b01100000000000000000001100000101#32 = .ok (.colorMap 0x305#10) := by decide

theorem test_decode_stage :
    decode 0b01110000000000000000000011000101#32 = .ok (.stage 0xC5#8) := by decide

theorem test_decode_reset : decode 0b11110000000000000000000000000000#32 = .ok .reset := by decide

/-- Rows C2 to C9: a reserved opcode, or one reserved bit at the edge of each format. -/
theorem test_decode_illegal :
    [0x00000001#32, 0x80000000#32, 0x90000000#32, 0xA0000000#32, 0xB0000000#32, 0xC0000000#32,
      0xD0000000#32, 0xE0000000#32, 0x10000001#32, 0x70000142#32, 0x40010000#32, 0x50100000#32,
      0x60000400#32, 0xF0000001#32].map (fun w => (decode w).toOption) = List.replicate 14 none := by
  decide

/-- The opcode table's own numbering of the bits, also where it gives fewer bits than a word has. -/
theorem test_decodeTableWord :
    decodeTableWord 32 0x4000000C = some (.avgPush 12) ∧ decodeTableWord 32 0x80000000 = none ∧
      decodeTableWord 8 0xF00 = some .nop := by decide

/-- The placed word is the one the next step runs (rule R150's worked example). -/
theorem test_withFetchWord :
    (nextState (step (State.reset.withFetchWord 32 0x4000000C))).map (fun t => (win t, avgX10 t)) =
      some ([12], 120) := by decide

/-! ### Well-formedness refuses -/

theorem test_wf_refuses_missing_operand : (AsmLine.command .stage none).wf = false := by decide

theorem test_wf_refuses_operand_of_format_n : (AsmLine.command .tick (some 0)).wf = false := by decide

/-- One above the range of each format (R82). -/
theorem test_wf_refuses_operand_out_of_range :
    (AsmLine.command .stage (some 256)).wf = false ∧
      (AsmLine.command .colorMap (some 1024)).wf = false ∧
      (AsmLine.command .avgPush (some 65536)).wf = false ∧
      (AsmLine.command .aqiMap (some 1048576)).wf = false := by decide

theorem test_wf_accepts_top_of_range :
    (AsmLine.command .stage (some 255)).wf = true ∧
      (AsmLine.command .colorMap (some 1023)).wf = true ∧
      (AsmLine.command .avgPush (some 65535)).wf = true ∧
      (AsmLine.command .aqiMap (some 1048575)).wf = true := by decide

theorem test_wf_refuses_wide_raw_word : (AsmLine.rawWord (2 ^ 32)).wf = false := by decide

theorem test_wf_refuses_stageN :
    (AsmLine.stageN []).wf = false ∧ (AsmLine.stageN [0, 256]).wf = false := by decide

theorem test_wf_refuses_feed :
    (AsmLine.feed (List.replicate 33 0)).wf = false ∧ (AsmLine.feed [256]).wf = false ∧
      (AsmLine.feedT (List.replicate 33 0)).wf = false ∧ (AsmLine.feedT [256]).wf = false := by decide

theorem test_wf_refuses_pushN :
    (AsmLine.pushN []).wf = false ∧ (AsmLine.pushN [65536]).wf = false := by decide

/-- The default table as arguments (R170). -/
def rows : List RowArgs :=
  [⟨0, 120, 0, 50⟩, ⟨121, 354, 51, 100⟩, ⟨355, 554, 101, 150⟩, ⟨555, 1504, 151, 200⟩,
   ⟨1505, 2504, 201, 300⟩, ⟨2505, 5004, 301, 500⟩]

/-- The default build as arguments (R8, R170, R178). -/
def args : BuildArgs :=
  ⟨20, 1, rows, [0x00E400, 0xFFFF00, 0xFF7E00, 0xFF0000, 0x8F3F97, 0x7E0023], 0xFF0000⟩

theorem test_wf_accepts_default_build : args.build = some Config.resetBuild := by decide

theorem test_wf_refuses_build_parameters :
    { args with windowN := 25 }.wf = false ∧ { args with reportPartial := 2 }.wf = false ∧
      { args with colorError := 2 ^ 24 }.wf = false ∧
      { args with colorTable := [0, 0, 0, 0, 0] }.wf = false ∧
      { args with colorTable := [0, 0, 0, 0, 0, 2 ^ 24] }.wf = false ∧
      { args with bandTable := rows.drop 1 }.wf = false := by decide

/-- U10: a row with `C_lo >= C_hi`, or with `I_lo > I_hi`. -/
theorem test_wf_refuses_band_row :
    { args with bandTable := ⟨120, 120, 0, 50⟩ :: rows.drop 1 }.wf = false ∧
      { args with bandTable := ⟨0, 120, 51, 50⟩ :: rows.drop 1 }.wf = false ∧
      { args with bandTable := ⟨0, 120, 50, 50⟩ :: rows.drop 1 }.wf = true := by decide

/-! ### Assembly -/

/-- R86's own examples, and program P5's raw word. -/
theorem test_assemble_text :
    assembleText ["; junk".toList, "  STAGE 0x42 ; the header".toList, "AVG_PUSH 12".toList,
        ".word 0x80000000".toList, "".toList] =
      some [0x70000042#32, 0x4000000C#32, 0x80000000#32] := by decide

/-- R87's expansions. -/
theorem test_assemble_pseudo :
    assembleText ["STAGEN 1, 2".toList, "FEED".toList, "FEEDT 0x02, 0xED".toList,
        "PUSHN 1,2".toList] =
      some [0x70000001#32, 0x70000002#32, 0x10000000#32, 0x70000002#32, 0x700000ED#32, 0x30000000#32,
        0x40000001#32, 0x40000002#32] := by decide

theorem test_assemble_refuses :
    assembleText ["STAGE 256".toList] = none ∧ assembleText ["NOP 1".toList] = none ∧
      assembleText ["JUMP 1".toList] = none ∧ assembleText ["STAGE -1".toList] = none := by decide

/-! ### One step of each command -/

/-- Row C1. -/
theorem test_nop : nextState (acceptWord 0x00000000#32 (holding frameA [1])) =
    some (holding frameA [1]) := by decide

/-- Row I1: `CHUNK_LEN`, `CHUNK[0]`, `BUF_LEN`, `ING_OUT`. -/
theorem test_stage :
    readsAfter 0x70000042#32 State.reset [0x006, 0x200, 0x005, 0x003] = some [1, 0x42, 0, 0] := by decide

/-- Row I2: a 33rd byte. -/
theorem test_stage_overflow :
    readsAfter 0x700000FF#32 (holding [] frameA) [0x006, 0x21F, 0x002] = some [32, 0xED, 2] := by decide

/-- Row I4: two junk bytes go, `ING_OUT` = INSUFFICIENT. -/
theorem test_ingest_aligns :
    readsAfter 0x10000000#32 (holding [] [0x00, 0x00, 0x42, 0x4D]) [0x005, 0x100, 0x003, 0x006] =
      some [2, 0x42, 1, 0] := by decide

/-- Rows I8 and I9: 200 bytes pass, 201 are flushed. -/
theorem test_ingest_cap :
    readsAfter 0x10000000#32 (holding (0x42 :: List.replicate 167 0) frameA) [0x005, 0x003] =
        some [200, 2] ∧
      readsAfter 0x10000000#32 (holding (0x42 :: List.replicate 168 0) frameA) [0x005, 0x003] =
        some [0, 3] := by decide +kernel

/-- Row DV3: `DEC_OUT`, `BUF_LEN`, `REC[4]`, `WIN[0]`, `AVG_X10`, `AQI`, `BAND`, `COLOR`, `STATUS`. -/
theorem test_decode_accepts :
    readsAfter 0x20000000#32 (holding frameA [])
        [0x004, 0x005, 0x014, 0x040, 0x022, 0x024, 0x025, 0x026, 0x002] =
      some [8, 0, 12, 12, 120, 50, 0, 0x00E400, 4] := by decide

/-- Rows DV9, DV10 and DV12 (offset 29): what each failed check does to the buffer. -/
theorem test_decode_rejects :
    readsAfter 0x20000000#32 (holding (frameA.set 1 0x4C ++ frameA) []) [0x004, 0x005, 0x100] =
        some [4, 63, 0x4C] ∧
      readsAfter 0x20000000#32 (holding (frameA.set 2 0x01) []) [0x004, 0x005] = some [5, 0] ∧
      readsAfter 0x20000000#32 (holding (frameA.set 29 0x01) []) [0x004, 0x005, 0x014] =
        some [7, 0, 0] := by decide

/-- Row DV18. -/
theorem test_tick :
    readsAfter 0x30000000#32 (holding [] frameA) [0x003, 0x004, 0x005, 0x01C] =
      some [2, 8, 0, 0x9700] := by decide

/-- Row DV20: the cap flush precedes the decode. -/
theorem test_tick_cap :
    readsAfter 0x30000000#32 (holding (0x42 :: List.replicate 191 0) frameA) [0x003, 0x004, 0x005] =
      some [3, 1, 0] := by decide +kernel

/-- Row V10 at its 25th push: `WIN[0]`, `WIN[19]`, `WIN[20]`, `AVG_SUM`, `AVG_STATE`, `AVG_X10`, `AQI`. -/
theorem test_avgPush_full :
    readsAfter 0x40000019#32
        (State.reset.setWindow ⟨[21, 22, 23, 24, 5, 6, 7, 8, 9, 10, 11, 12, 13, 14, 15, 16, 17, 18, 19,
          20], 4, 20⟩) [0x040, 0x053, 0x054, 0x021, 0x023, 0x022, 0x024] =
      some [6, 25, 0, 310, 3, 155, 58] := by decide

/-- Row V11's first push: CALCULATING, no average, no AQI. -/
theorem test_avgPush_calculating :
    readsAfter 0x40000001#32 (State.resetOf sentinelBuild) [0x020, 0x023, 0x022, 0x025, 0x002] =
      some [1, 2, 0, 6, 0] := by decide

/-- Rows 1000 and 5005 of section 2.4. -/
theorem test_aqiMap :
    readsAfter 0x500003E8#32 State.reset [0x028, 0x029] = some [173, 3] ∧
      readsAfter 0x5000138D#32 State.reset [0x028, 0x029] = some [0x8000, 7] := by decide

/-- Rows 300 and 501 of section 2.5. -/
theorem test_colorMap :
    readsAfter 0x6000012C#32 State.reset [0x02A, 0x02B] = some [4, 0x8F3F97] ∧
      readsAfter 0x600001F5#32 State.reset [0x02A, 0x02B] = some [7, 0xFF0000] := by decide

/-- Row C10. -/
theorem test_reset :
    nextState (acceptWord 0xF0000000#32
      (((holding frameA frameA).setWindow windowV10).setIll.setStgOvf.setDecOut .ok)) =
        some State.reset := by decide

/-- Row C5: nothing is staged. -/
theorem test_illegal_word :
    readsAfter 0x70000142#32 State.reset [0x002, 0x006] = some [1, 0] := by decide

/-- Section 2.7, the CONFIG rows. -/
theorem test_config :
    [(WindowSize.twenty, true), (.thirty, false), (.twenty, false), (.thirty, true)].map
        (fun p => regRead (State.resetOf (Config.defaultTablesBuild p.1 p.2)) 0x001) =
      [0x20C80114#32, 0x20C8001E#32, 0x20C80014#32, 0x20C8011E#32] := by decide

/-! ### Witnesses: states and operands that meet the hypotheses of the statements -/

theorem witness_legal_word : decode 0x70000042#32 = .ok (.stage 0x42) := by decide

/-- One word of each clause of R85, at the edges. -/
theorem witness_illegal_words :
    [0x80000000#32, 0xEFFFFFFF#32, 0x00000001#32, 0x3FFFFFFF#32, 0xF8000000#32, 0x40010000#32,
      0x50100000#32, 0x60000400#32, 0x70000100#32].map (fun w => (decode w).toOption) =
        List.replicate 9 none ∧
      decode 0x80000000#32 = .error (.reservedOpcode 8) ∧
      decode 0x60000400#32 = .error (.reservedBits 6) := by decide

/-- The state whose only queued input is `p`. -/
def queued (p : PortInput) : State := State.reset.setInputs [p]

theorem witness_step_of_legal_word :
    (queued (.command 0x70000042#32)).inputs = .command 0x70000042#32 :: [] ∧
      decode 0x70000042#32 = .ok (.stage 0x42) := by decide

theorem witness_step_of_illegal_word :
    (queued (.command 0x80000000#32)).inputs = .command 0x80000000#32 :: [] ∧
      decode 0x80000000#32 = .error (.reservedOpcode 8) := by decide

theorem witness_reset_pulse : (queued .resetPulse).inputs = .resetPulse :: [] := by decide

theorem witness_idle : State.reset.inputs = [] ∧ (queued (.readAddr 0x3FF)).inputs = [.readAddr 0x3FF] := by
  decide

theorem witness_read_after_words :
    (State.reset.setInputs [.command 0x70000042#32, .readAddr 0x006]).inputs =
      [0x70000042#32].map PortInput.command ++ .readAddr 0x006 :: [] := by decide

theorem witness_run : runWords [0x70000042#32] State.reset = .next (holding [] [0x42]) := rfl

theorem witness_stage : (holding [] (frameA.take 31)).chunk.length < 32 ∧
    32 ≤ (holding [] frameA).chunk.length := by decide

/-- Aligned lengths 31, 32, 200 and 201, the edges of INGEST's three clauses. -/
theorem witness_ingest :
    ((holding (frameA.take 31) []).buf.dropWhile (fun x => x != 0x42#8)).length < 32 ∧
      ((holding frameA []).buf.dropWhile (fun x => x != 0x42#8)).length = 32 ∧
      ((holding (0x42 :: List.replicate 167 0) frameA).buf ++ frameA |>.dropWhile
        (fun x => x != 0x42#8)).length = 200 ∧
      200 < ((holding (0x42 :: List.replicate 168 0) frameA).buf ++ frameA |>.dropWhile
        (fun x => x != 0x42#8)).length := by decide +kernel

theorem witness_alignment : [0x42#8, 0x00#8].head? = some 0x42#8 ∧ 0x42#8 ∉ [0x41#8, 0x43#8] := by decide

theorem witness_ingest_next : ∃ t, exec .ingest State.reset = .next t := ⟨_, rfl⟩

theorem witness_cap_per_chunk :
    (holding (0x42 :: List.replicate 189 0) []).buf.length = 190 ∧
      (holding (0x42 :: List.replicate 189 0) []).buf.head? = some 0x42#8 ∧
      (List.replicate 11 0x00#8).length = 11 ∧ (frameA.take 21).length = 21 := by decide +kernel

/-- Lengths 31, 32 and 200, aligned; and a buffer that is not. -/
theorem witness_empty_ingest :
    (holding (0x42 :: List.replicate 199 0) []).chunk = [] ∧
      (holding (0x42 :: List.replicate 199 0) []).buf.length ≤ 200 ∧
      (holding (0x42 :: List.replicate 199 0) []).buf.head? = some 0x42#8 ∧
      (alignBytes (holding (0x00 :: frameA) []).buf).length = 32 ∧
      (alignBytes (holding (0x00 :: frameA.take 31) []).buf).length = 31 := by decide +kernel

theorem witness_short_buffer : (alignBytes (holding (frameA.take 31) []).buf).length < 32 := by decide

theorem witness_bad_header :
    alignBytes (holding (frameA.set 1 0x4C ++ frameA) []).buf = frameA.set 1 0x4C ++ frameA ∧
      (frameA.set 1 0x4C).length = 32 ∧ byteAt (frameA.set 1 0x4C) 1 ≠ 0x4D#8 := by decide

theorem witness_bad_length :
    alignBytes (holding (frameA.set 3 0x1D) []).buf = frameA.set 3 0x1D ++ [] ∧
      (frameA.set 3 0x1D).length = 32 ∧ byteAt (frameA.set 3 0x1D) 1 = 0x4D#8 ∧
      pairValue (frameA.set 3 0x1D) 2 ≠ 28 := by decide

/-- A wrong sum, a field of 170 and one of 7651: the edges of the clauses on the checksum. -/
theorem witness_bad_checksum :
    let low := (frameA.set 30 0x00).set 31 0xAA
    let high := (frameA.set 30 0x1D).set 31 0xE3
    alignBytes (holding low []).buf = low ++ [] ∧ low.length = 32 ∧ byteAt low 1 = 0x4D#8 ∧
      pairValue low 2 = 28 ∧ exactSum low ≠ pairValue low 30 ∧ pairValue low 30 = 170 ∧
      alignBytes (holding high []).buf = high ++ [] ∧ pairValue high 2 = 28 ∧
      pairValue high 30 = 7651 := by decide

theorem witness_accepted_frame :
    alignBytes (holding (frameA ++ [1, 2]) []).buf = frameA ++ [1, 2] ∧ frameA.length = 32 ∧
      byteAt frameA 1 = 0x4D#8 ∧ pairValue frameA 2 = 28 ∧ exactSum frameA = pairValue frameA 30 := by
  decide

/-- Two well-formed frames, and one followed by bytes up to the cap. -/
theorem witness_frames :
    IsFrame frameA ∧ IsFrame frameM ∧
      (holding (frameA ++ List.replicate 136 0) (List.replicate 32 0)).buf =
        frameA ++ List.replicate 136 0 ∧
      ((holding (frameA ++ List.replicate 136 0) (List.replicate 32 0)).buf ++
        List.replicate 32 0x00#8).length ≤ 200 := by decide +kernel

/-- Offsets 0, 1, 2, 3, 4 and 31. -/
theorem witness_corruption :
    IsFrame frameA ∧
      [0, 1, 2, 3, 4, 31].all (fun j => decide (j < 32) && decide (0x7F#8 ≠ byteAt frameA j)) = true ∧
      (holding (frameA.set 31 0x7F ++ frameA) []).buf = frameA.set 31 0x7F ++ frameA := by decide

theorem witness_tick_not_ready :
    (nextState (exec .ingest State.reset)).map (fun u => decide (u.ingOut ≠ .ready)) = some true := by
  decide

/-- An accepted frame changes the record. -/
theorem witness_record_changes :
    (nextState (exec .decode (holding frameA []))).map
      (fun t => decide (t.record ≠ (holding frameA []).record)) = some true := by decide

theorem witness_windows :
    State.reset.window.InRange 20 ∧ State.reset.window.count < 20 ∧ windowV10.InRange 20 ∧
      windowV10.count = 20 := by decide

theorem witness_many_readings :
    State.reset.window.InRange (windowLen State.reset.build) ∧
      windowLen State.reset.build ≤ (List.replicate 20 0xFFFF#16).length := by decide

/-- One state in each of the averager's four states. -/
theorem witness_averager_states :
    avgState State.reset = .empty ∧
      avgState (State.reset.setWindow ⟨List.replicate 20 1, 0, 19⟩) = .filling ∧
      avgState ((State.resetOf sentinelBuild).setWindow ⟨List.replicate 20 1, 0, 19⟩) = .calculating ∧
      avgState (State.reset.setWindow windowV10) = .full := by decide

theorem witness_bands :
    bandOf Config.resetBuild 5004 = .band .hazardous ∧ bandOf Config.resetBuild 5005 = .error ∧
      bandOfAqi Config.resetBuild 500 = .band .hazardous ∧ bandOfAqi Config.resetBuild 501 = .error ∧
      Config.resetBuild.bandTable = Config.defaultBandTable := by decide

theorem witness_in_range_state :
    State.reset.Inv ∧ ((holding (0x42 :: List.replicate 199 0) frameA).setWindow windowV10).Inv := by
  decide +kernel

/-- The edges of the unmapped ranges of R61. -/
theorem witness_unmapped :
    [0x007, 0x00F, 0x01D, 0x01F, 0x027, 0x02C, 0x03F, 0x060, 0x0FF, 0x220, 0x3FF].map
      (fun a => regRead (holding frameA frameA) a) = List.replicate 11 0#32 := by decide

theorem witness_step : ∃ t, step State.reset = .next t := ⟨_, rfl⟩

theorem witness_exec_not_reset : Instr.nop ≠ .reset ∧ ∃ t, exec .nop State.reset = .next t :=
  ⟨by decide, _, rfl⟩

/-- A DECODE that accepts nothing leaves `DEC_OUT` other than OK. -/
theorem witness_decode_not_ok :
    (nextState (exec .decode State.reset)).map (fun t => decide (t.decOut ≠ .ok)) = some true := by decide

/-- One logical window, stored in two ways. -/
theorem witness_two_storages :
    windowV10.InRange (windowLen State.reset.build) ∧
      Window.InRange 20 ⟨(List.range 20).map (fun i => BitVec.ofNat 16 (i + 6)), 0, 20⟩ ∧
      Window.contents 20 ⟨(List.range 20).map (fun i => BitVec.ofNat 16 (i + 6)), 0, 20⟩ =
        windowV10.contents 20 := by decide

/-- Good is displayed in green (R170, R178): a state that meets the premises on `COLOR`. -/
theorem witness_displayed_colour :
    State.reset.build.bandTable = Config.defaultBandTable ∧
      (nextState (exec (.avgPush 12) State.reset)).map
        (fun t => (t.aqi.band, t.aqi.color, decide (t.aqi.val.toNat ≤ 500),
          decide (t.lookup.aqiVal.toNat ≤ 500))) = some (.band .good, 0x00E400, true, true) := by decide

theorem witness_feed :
    (List.replicate 32 255).length ≤ 32 ∧ (∀ b ∈ List.replicate 32 255, b < 256) ∧
      State.reset.chunk = [] ∧ 32 < (List.replicate 33 0).length := by decide

/-- The edges of what each kind of line accepts (R82, R87). -/
theorem witness_assembled_edges :
    assemble (.stageN [0, 255]) = some [0x70000000#32, 0x700000FF#32] ∧
      assemble (.feed []) = some [0x10000000#32] ∧ assemble (.feedT [255]) = some
        [0x700000FF#32, 0x30000000#32] ∧ assemble (.command .reset none) = some [0xF0000000#32] ∧
      assemble (.command .reset (some 0)) = none ∧ assemble (.command .colorMap (some 1023)) = some
        [0x600003FF#32] ∧ assemble (.command .colorMap none) = none := by decide

theorem witness_assembled :
    assemble (.pushN [1, 65535]) = some [0x40000001#32, 0x4000FFFF#32] ∧
      (∀ w, AsmLine.pushN [1, 65535] ≠ .rawWord w) ∧ 0xFFFFFFFF < 2 ^ 32 :=
  ⟨by decide, fun _ => by simp, by decide⟩

end Sys2Proof.Tests
end

section
/-! The scope family: the step of a command word, the words the host has queued (R14, R67, R231), and
big-endian pairs and the byte sum as integers (R12, R62, R126). -/

namespace Sys2Proof.Machine

/-! ### The step of a command word (R14, R193) -/

/-- A step serves the next thing the host does, which is then no longer ahead of it. -/
theorem step_of_inputs {s : State} {p : PortInput} {rest : List PortInput}
    (h : s.inputs = p :: rest) : step s = serve p (s.setInputs rest) := by
  simp only [step, h]

/-- A legal word is accepted as the command it decodes to. -/
theorem acceptWord_of_ok {w : Word32} {i : Instr} (h : decode w = .ok i) (s : State) :
    acceptWord w s = exec i s := by
  simp only [acceptWord, h]

/-- An illegal word is accepted too, with its own effect (R85, R192). -/
theorem acceptWord_of_error {w : Word32} {e : IllegalWord} (h : decode w = .error e) (s : State) :
    acceptWord w s = .next s.setIll := by
  simp only [acceptWord, h, execIllegal]

/-- Settles O6: the step serves the word, and the word is accepted as its command. -/
theorem stepRunsTheAcceptedCommand : Obligations.StepRunsTheAcceptedCommand := by
  intro s w rest i hin hdec
  calc step s = acceptWord w (s.setInputs rest) := step_of_inputs hin
    _ = exec i (s.setInputs rest) := acceptWord_of_ok hdec _

/-! ### No command depends on what the host will do (R21, log entry 1)

Each operation commutes with `setInputs`. -/

section

variable (s : State) (ps : List PortInput)

theorem stageByte_setInputs (b : Byte) :
    stageByte (s.setInputs ps) b = (stageByte s b).setInputs ps := by
  simp only [stageByte, apply_ite (State.setInputs · ps)]
  rfl

theorem capCheck_setInputs : capCheck (s.setInputs ps) = (capCheck s).setInputs ps := by
  simp only [capCheck, apply_ite (State.setInputs · ps)]
  rfl

theorem ingestPhase_setInputs : ingestPhase (s.setInputs ps) = (ingestPhase s).setInputs ps :=
  capCheck_setInputs ((s.append s.chunk).setChunk []).align ps

theorem checkFrame_setInputs (w : List Byte) :
    checkFrame (s.setInputs ps) w = (checkFrame s w).setInputs ps := by
  simp only [checkFrame, apply_ite (State.setInputs · ps)]
  rfl

theorem decodeAligned_setInputs :
    decodeAligned (s.setInputs ps) = (decodeAligned s).setInputs ps := by
  simp only [decodeAligned, apply_ite (State.setInputs · ps), ← checkFrame_setInputs]
  rfl

theorem decodePhase_setInputs : decodePhase (s.setInputs ps) = (decodePhase s).setInputs ps :=
  decodeAligned_setInputs s.align ps

/-- A command acts on the block alone: other host inputs behind it stay behind its result. -/
theorem exec_setInputs {i : Instr} {t : State} (h : exec i s = .next t) :
    exec i (s.setInputs ps) = .next (t.setInputs ps) := by
  cases i <;> cases h
  case nop | avgPush | aqiMap | colorMap | reset => rfl
  case ingest => exact congrArg _ (ingestPhase_setInputs s ps)
  case decode => exact congrArg _ (decodePhase_setInputs s ps)
  case tick =>
    refine congrArg Host.Outcome.next ?_
    rw [ingestPhase_setInputs, decodePhase_setInputs]
  case stage b => exact congrArg _ (stageByte_setInputs s ps b)

/-- So does an accepted word, legal or not. -/
theorem acceptWord_setInputs {w : Word32} {t : State} (h : acceptWord w s = .next t) :
    acceptWord w (s.setInputs ps) = .next (t.setInputs ps) := by
  cases hdec : decode w with
  | ok i =>
    rw [acceptWord_of_ok hdec] at h ⊢
    exact exec_setInputs s ps h
  | error e =>
    rw [acceptWord_of_error hdec] at h ⊢
    cases h
    rfl

end

/-! ### Runs of queued words (R67, R231) -/

/-- Every accepted word answers a next state (R193). -/
theorem acceptWord_next (w : Word32) (s : State) : ∃ t, acceptWord w s = .next t := by
  obtain ⟨i, -, h⟩ | ⟨e, -, h⟩ := acceptWord_cases w s
  · rw [h]
    exact exec_next i s
  · exact ⟨_, h⟩

/-- The first word of a run, then the rest. -/
theorem runWords_cons_of_next {w : Word32} {s t : State} (h : acceptWord w s = .next t)
    (ws : List Word32) : runWords (w :: ws) s = runWords ws t := by
  simp only [runWords, h]

/-- Every run of words ends in a next state. -/
theorem runWords_next (ws : List Word32) (s : State) : ∃ t, runWords ws s = .next t := by
  induction ws generalizing s with
  | nil => exact ⟨s, rfl⟩
  | cons w ws ih =>
    obtain ⟨t, ht⟩ := acceptWord_next w s
    rw [runWords_cons_of_next ht]
    exact ih t

/-- The first step of a run of the machine, then the rest. -/
theorem run_succ_of_next {s t : State} (h : step s = .next t) (k : Nat) :
    Host.Core.run core (k + 1) s = Host.Core.run core k t := by
  have hcore : core.step s = .next t := h
  simp only [Host.Core.run, hcore]

/-- With words queued ahead of other inputs, as many steps as words accept the words in order and leave
the other inputs ahead. -/
theorem run_queued_words (ws : List Word32) (s : State) (later : List PortInput) :
    Host.Core.run core ws.length (s.setInputs (ws.map PortInput.command ++ later)) =
      runWords ws (s.setInputs later) := by
  induction ws generalizing s with
  | nil => rfl
  | cons w ws ih =>
    obtain ⟨t, ht⟩ := acceptWord_next w s
    have hstep : step (s.setInputs (.command w :: (ws.map PortInput.command ++ later))) =
        .next (t.setInputs (ws.map PortInput.command ++ later)) := by
      rw [step_of_inputs (State.setInputs_inputs s _), State.setInputs_setInputs]
      exact acceptWord_setInputs s _ ht
    rw [runWords_cons_of_next (acceptWord_setInputs s later ht), ← ih t]
    exact run_succ_of_next hstep ws.length

/-- Settles O12: the queue is the words with no other input behind them. -/
theorem queuedWordsAreAcceptedInOrder : Obligations.QueuedWordsAreAcceptedInOrder := by
  intro ws s hidle
  have hqueue : s.submit ws = s.setInputs (ws.map PortInput.command ++ []) := by
    rw [State.submit, hidle, List.nil_append, List.append_nil]
  have hself : s.setInputs [] = s := by rw [← hidle, State.setInputs_self]
  refine ⟨?_, runWords_next ws s⟩
  rw [hqueue, run_queued_words, hself]

/-! ### Pairs and byte sums as integers (R12, R62, R126) -/

/-- `be16(h, l) = h * 256 + l` (R12). -/
theorem be16_toNat (h l : Byte) : (be16 h l).toNat = 256 * h.toNat + l.toNat := by
  have hl : l.toNat < 2 ^ 8 := l.isLt
  rw [be16, BitVec.toNat_append, ← Nat.shiftLeft_add_eq_or_of_lt hl, Nat.shiftLeft_eq]
  omega

/-- The field at an offset is the number its pair stands for (R62). -/
theorem fieldAt_toNat (w : List Byte) (k : Nat) : (fieldAt w k).toNat = pairValue w k :=
  be16_toNat _ _

/-- A sum of bytes is at most 255 for each of them. -/
theorem sum_bytes_le (l : List Byte) : (l.map BitVec.toNat).sum ≤ l.length * 255 := by
  induction l with
  | nil => exact Nat.le_refl 0
  | cons b l ih =>
    have hb : b.toNat < 2 ^ 8 := b.isLt
    simp only [List.map_cons, List.sum_cons, List.length_cons]
    omega

/-- The 16-bit accumulator holds the sum modulo 2^16 of however many bytes. -/
theorem sum_setWidth_toNat (l : List Byte) :
    ((l.map fun b : Byte => b.setWidth 16).sum).toNat = (l.map BitVec.toNat).sum % 2 ^ 16 := by
  induction l with
  | nil => rfl
  | cons b l ih =>
    have hb : b.toNat < 2 ^ 8 := b.isLt
    simp only [List.map_cons, List.sum_cons, BitVec.toNat_add, BitVec.toNat_setWidth, ih]
    omega

/-- Thirty bytes of at most 255 sum to at most 7650 (R126). -/
theorem exactSum_le (w : List Byte) : exactSum w ≤ 7650 := by
  have hsum : exactSum w ≤ (w.take 30).length * 255 := sum_bytes_le (w.take 30)
  have hlen : (w.take 30).length ≤ 30 := List.length_take_le 30 w
  omega

/-- The accumulator never wraps, since 7650 is below 2^16 (R126). -/
theorem byteSum_toNat (w : List Byte) : (byteSum w).toNat = exactSum w := by
  have hle : exactSum w ≤ 7650 := exactSum_le w
  calc (byteSum w).toNat = exactSum w % 2 ^ 16 := sum_setWidth_toNat (w.take 30)
    _ = exactSum w := Nat.mod_eq_of_lt (by omega)

/-- Settles O21, from the value of a pair and the bound that keeps the accumulator from wrapping. -/
theorem pairsAreBigEndianAndSumsExact : Obligations.PairsAreBigEndianAndSumsExact :=
  ⟨fieldAt_toNat, fun w => ⟨byteSum_toNat w, exactSum_le w⟩⟩

end Sys2Proof.Machine
end

section
/-! The state family: what each command writes, said once (R23 to R29), and from it the frame of every
command, the STATUS bits (R32), the invariant of a step, and that the window's storage is hidden (R27). -/

namespace Sys2Proof.Machine

/-! ### The effects of the commands -/

/-- INGEST as one chain of tests on the aligned bytes (R102). -/
theorem ingestPhase_eq_ite (s : State) :
    ingestPhase s =
      if 200 < (alignBytes (s.buf ++ s.chunk)).length then
        ((s.setChunk []).setBuf []).setIngOut .capOverrun
      else if (alignBytes (s.buf ++ s.chunk)).length < 32 then
        ((s.setChunk []).setBuf (alignBytes (s.buf ++ s.chunk))).setIngOut .insufficient
      else ((s.setChunk []).setBuf (alignBytes (s.buf ++ s.chunk))).setIngOut .ready := rfl

/-- DECODE as one chain of tests on the aligned bytes (R120). -/
theorem decodePhase_eq_ite (s : State) :
    decodePhase s =
      if (alignBytes s.buf).length < 32 then (s.setBuf (alignBytes s.buf)).setDecOut .insufficient
      else if byteAt ((alignBytes s.buf).take 32) 1 ≠ 0x4D#8 then
        (s.setBuf ((alignBytes s.buf).drop 1)).setDecOut .badHeader
      else if fieldAt ((alignBytes s.buf).take 32) 2 ≠ 28#16 then (s.setBuf []).setDecOut .badLength
      else if byteSum ((alignBytes s.buf).take 32) ≠ fieldAt ((alignBytes s.buf).take 32) 30 then
        (s.setBuf []).setDecOut .checksum
      else
        acceptReading (((s.setBuf ((alignBytes s.buf).drop 32)).setRecord
          (frameRecord ((alignBytes s.buf).take 32))).setDecOut .ok)
          (frameRecord ((alignBytes s.buf).take 32)).pm25Env := rfl

/-- What INGEST writes is decided by `BUF` and `CHUNK` alone. -/
theorem ingestPhase_of_bytes (buf chunk : List Byte) :
    ∃ (bs : List Byte) (c : OutcomeCode), bs.length ≤ 200 ∧ c.IsIngest ∧
      ∀ u : State, u.buf = buf → u.chunk = chunk →
        ingestPhase u = ((u.setChunk []).setBuf bs).setIngOut c := by
  by_cases hcap : 200 < (alignBytes (buf ++ chunk)).length
  · refine ⟨[], .capOverrun, Nat.zero_le _, by decide, fun u hb hc => ?_⟩
    rw [ingestPhase_eq_ite, hb, hc, if_pos hcap]
  have hle : (alignBytes (buf ++ chunk)).length ≤ 200 := Nat.le_of_not_lt hcap
  by_cases hshort : (alignBytes (buf ++ chunk)).length < 32
  · refine ⟨_, .insufficient, hle, by decide, fun u hb hc => ?_⟩
    rw [ingestPhase_eq_ite, hb, hc, if_neg hcap, if_pos hshort]
  · refine ⟨_, .ready, hle, by decide, fun u hb hc => ?_⟩
    rw [ingestPhase_eq_ite, hb, hc, if_neg hcap, if_neg hshort]

/-- What DECODE writes is decided by `BUF` alone: it stores fewer or equally many bytes and another
outcome than OK, or it accepts a frame. -/
theorem decodePhase_of_bytes (buf : List Byte) :
    (∃ (bs : List Byte) (c : OutcomeCode), bs.length ≤ buf.length ∧ c.IsDecode ∧ c ≠ .ok ∧
      ∀ u : State, u.buf = buf → decodePhase u = (u.setBuf bs).setDecOut c) ∨
    ∃ (bs : List Byte) (r : MeasurementRecord), bs.length ≤ buf.length ∧
      ∀ u : State, u.buf = buf →
        decodePhase u = acceptReading (((u.setBuf bs).setRecord r).setDecOut .ok) r.pm25Env := by
  have hle : (alignBytes buf).length ≤ buf.length := alignBytes_length_le buf
  have hdrop (k : Nat) : ((alignBytes buf).drop k).length ≤ buf.length := by
    rw [List.length_drop]
    omega
  by_cases hshort : (alignBytes buf).length < 32
  · refine .inl ⟨_, .insufficient, hle, by decide, by decide, fun u hb => ?_⟩
    rw [decodePhase_eq_ite, hb, if_pos hshort]
  by_cases hhdr : byteAt ((alignBytes buf).take 32) 1 ≠ 0x4D#8
  · refine .inl ⟨_, .badHeader, hdrop 1, by decide, by decide, fun u hb => ?_⟩
    rw [decodePhase_eq_ite, hb, if_neg hshort, if_pos hhdr]
  by_cases hlen : fieldAt ((alignBytes buf).take 32) 2 ≠ 28#16
  · refine .inl ⟨[], .badLength, Nat.zero_le _, by decide, by decide, fun u hb => ?_⟩
    rw [decodePhase_eq_ite, hb, if_neg hshort, if_neg hhdr, if_pos hlen]
  by_cases hsum : byteSum ((alignBytes buf).take 32) ≠ fieldAt ((alignBytes buf).take 32) 30
  · refine .inl ⟨[], .checksum, Nat.zero_le _, by decide, by decide, fun u hb => ?_⟩
    rw [decodePhase_eq_ite, hb, if_neg hshort, if_neg hhdr, if_neg hlen, if_pos hsum]
  · refine .inr ⟨_, frameRecord ((alignBytes buf).take 32), hdrop 32, fun u hb => ?_⟩
    rw [decodePhase_eq_ite, hb, if_neg hshort, if_neg hhdr, if_neg hlen, if_neg hsum]

/-- What a command can write in the state `s`, as the change `f` it makes: one constructor for each
outcome of each command. -/
inductive Effect (s : State) : Instr → (State → State) → Prop
  | nop : Effect s .nop fun u => u
  | staged (b : Byte) (room : s.chunk.length < 32) :
      Effect s (.stage b) fun u => u.setChunk (s.chunk ++ [b])
  | overflowed (b : Byte) (full : 32 ≤ s.chunk.length) : Effect s (.stage b) fun u => u.setStgOvf
  | ingested (bs : List Byte) (c : OutcomeCode) (fits : bs.length ≤ 200) (code : c.IsIngest) :
      Effect s .ingest fun u => ((u.setChunk []).setBuf bs).setIngOut c
  | rejected (bs : List Byte) (c : OutcomeCode) (fits : bs.length ≤ s.buf.length)
      (code : c.IsDecode) (notOk : c ≠ .ok) :
      Effect s .decode fun u => (u.setBuf bs).setDecOut c
  | accepted (bs : List Byte) (r : MeasurementRecord) (fits : bs.length ≤ s.buf.length) :
      Effect s .decode fun u =>
        acceptReading (((u.setBuf bs).setRecord r).setDecOut .ok) r.pm25Env
  | tickRejected (bs : List Byte) (ing dec : OutcomeCode) (fits : bs.length ≤ 200)
      (ingCode : ing.IsIngest) (decCode : dec.IsDecode) (notOk : dec ≠ .ok) :
      Effect s .tick fun u => (((u.setChunk []).setIngOut ing).setBuf bs).setDecOut dec
  | tickAccepted (bs : List Byte) (ing : OutcomeCode) (r : MeasurementRecord)
      (fits : bs.length ≤ 200) (ingCode : ing.IsIngest) :
      Effect s .tick fun u =>
        acceptReading (((((u.setChunk []).setIngOut ing).setBuf bs).setRecord r).setDecOut .ok)
          r.pm25Env
  | pushed (v : Word16) : Effect s (.avgPush v) fun u => acceptReading u v
  | aqiMapped (c : Conc) : Effect s (.aqiMap c) fun u => u.setAqiLookup (aqiOf u.build c)
  | colorMapped (a : Score) :
      Effect s (.colorMap a) fun u => u.setColorLookup (bandOfAqi u.build a) (colorOf u.build a)
  | restarted : Effect s .reset fun u => u.restart

/-! The four commands whose effect depends on the bytes held. -/

theorem exec_stage (b : Byte) (s : State) : exec (.stage b) s = .next (stageByte s b) := rfl

theorem exec_ingest (s : State) : exec .ingest s = .next (ingestPhase s) := rfl

theorem exec_decode (s : State) : exec .decode s = .next (decodePhase s) := rfl

theorem exec_tick (s : State) : exec .tick s = .next (decodePhase (ingestPhase s)) := rfl

/-- Every command makes one of its changes, and makes the same change in every state with the same `BUF`
and `CHUNK`. -/
theorem exec_effect (i : Instr) (s : State) :
    ∃ f, Effect s i f ∧
      ∀ u : State, u.buf = s.buf → u.chunk = s.chunk → exec i u = .next (f u) := by
  cases i with
  | nop => exact ⟨_, .nop, fun _ _ _ => rfl⟩
  | avgPush v => exact ⟨_, .pushed v, fun _ _ _ => rfl⟩
  | aqiMap c => exact ⟨_, .aqiMapped c, fun _ _ _ => rfl⟩
  | colorMap a => exact ⟨_, .colorMapped a, fun _ _ _ => rfl⟩
  | reset => exact ⟨_, .restarted, fun _ _ _ => rfl⟩
  | stage b =>
    by_cases h : s.chunk.length < 32
    · refine ⟨_, .staged b h, fun u _ hc => ?_⟩
      rw [exec_stage, ← hc, stageByte, if_pos (by rwa [hc])]
    · refine ⟨_, .overflowed b (Nat.le_of_not_lt h), fun u _ hc => ?_⟩
      rw [exec_stage, stageByte, if_neg (by rwa [hc])]
  | ingest =>
    obtain ⟨bs, c, fits, code, hing⟩ := ingestPhase_of_bytes s.buf s.chunk
    exact ⟨_, .ingested bs c fits code, fun u hb hc => by rw [exec_ingest, hing u hb hc]⟩
  | decode =>
    obtain ⟨bs, c, fits, code, notOk, hdec⟩ | ⟨bs, r, fits, hdec⟩ := decodePhase_of_bytes s.buf
    · exact ⟨_, .rejected bs c fits code notOk, fun u hb _ => by rw [exec_decode, hdec u hb]⟩
    · exact ⟨_, .accepted bs r fits, fun u hb _ => by rw [exec_decode, hdec u hb]⟩
  | tick =>
    obtain ⟨mid, ing, midFits, ingCode, hing⟩ := ingestPhase_of_bytes s.buf s.chunk
    obtain ⟨bs, dec, fits, decCode, notOk, hdec⟩ | ⟨bs, r, fits, hdec⟩ := decodePhase_of_bytes mid
    · refine ⟨_, .tickRejected bs ing dec (fits.trans midFits) ingCode decCode notOk,
        fun u hb hc => ?_⟩
      rw [exec_tick, hing u hb hc, hdec _ rfl]
      rfl
    · refine ⟨_, .tickAccepted bs ing r (fits.trans midFits) ingCode, fun u hb hc => ?_⟩
      rw [exec_tick, hing u hb hc, hdec _ rfl]
      rfl

/-- A command's next state is one of its changes applied to the state it ran in. -/
theorem effect_of_exec {i : Instr} {s t : State} (h : exec i s = .next t) :
    ∃ f, Effect s i f ∧ t = f s := by
  obtain ⟨f, hf, hexec⟩ := exec_effect i s
  rw [hexec s rfl rfl] at h
  cases h
  exact ⟨f, hf, rfl⟩

/-! ### What a reading, a lookup and a reset leave in each element -/

section

variable (s : State) (v : Word16)

@[simp] theorem acceptReading_build : (acceptReading s v).build = s.build := rfl
@[simp] theorem acceptReading_buf : (acceptReading s v).buf = s.buf := rfl
@[simp] theorem acceptReading_chunk : (acceptReading s v).chunk = s.chunk := rfl
@[simp] theorem acceptReading_record : (acceptReading s v).record = s.record := rfl
@[simp] theorem acceptReading_window :
    (acceptReading s v).window = s.window.push (windowLen s.build) v := rfl
@[simp] theorem acceptReading_ingOut : (acceptReading s v).ingOut = s.ingOut := rfl
@[simp] theorem acceptReading_decOut : (acceptReading s v).decOut = s.decOut := rfl
@[simp] theorem acceptReading_ill : (acceptReading s v).ill = s.ill := rfl
@[simp] theorem acceptReading_stgOvf : (acceptReading s v).stgOvf = s.stgOvf := rfl
@[simp] theorem acceptReading_lookup : (acceptReading s v).lookup = s.lookup := rfl
@[simp] theorem acceptReading_inputs : (acceptReading s v).inputs = s.inputs := rfl
@[simp] theorem acceptReading_rdAddr : (acceptReading s v).rdAddr = s.rdAddr := rfl

@[simp] theorem restart_ill : s.restart.ill = false := rfl
@[simp] theorem restart_stgOvf : s.restart.stgOvf = false := rfl
@[simp] theorem restart_decOut : s.restart.decOut = .none := rfl
@[simp] theorem restart_ingOut : s.restart.ingOut = .none := rfl

/-- The lookups write the `MAP_` registers and nothing else (R173, R177). -/
@[simp] theorem setAqiLookup_eq (r : Score × BandCode) :
    s.setAqiLookup r =
      s.setLookup { s.lookup with aqiVal := r.1, aqiErr := r.2 == .error, band := r.2 } := rfl

@[simp] theorem setColorLookup_eq (k : BandCode) (c : Color) :
    s.setColorLookup k c = s.setLookup { s.lookup with cband := k, color := c } := rfl

/-- `AQI_VALID` after a reading: it was set, or an average is reported now (R155, R176). -/
theorem acceptReading_aqi_valid :
    (acceptReading s v).aqi.valid = true ↔ s.aqi.valid = true ∨
      (avgState (acceptReading s v) = .filling ∨ avgState (acceptReading s v) = .full) := by
  have hstate : avgState (acceptReading s v) =
      averagerState s.build (s.window.push (windowLen s.build) v) := rfl
  have haqi : (acceptReading s v).aqi =
      aqiAfter s.build (s.window.push (windowLen s.build) v) s.aqi := rfl
  rw [hstate, haqi, ← AvgState.reported_iff]
  obtain ⟨hrep, h⟩ | ⟨hrep, h⟩ :=
    aqiAfter_cases s.build (s.window.push (windowLen s.build) v) s.aqi
  · simp [h, hrep, aqiRegsFor]
  · simp [h, hrep]

end

/-! ### The frame of each command (R23 to R29) -/

/-- Settles O50: each effect writes its own elements, and `simp` reads every other one back unchanged. -/
theorem eachCommandChangesOnlyItsOwnElements :
    Obligations.EachCommandChangesOnlyItsOwnElements := by
  intro i s t h
  obtain ⟨f, hf, rfl⟩ := effect_of_exec h
  cases hf <;> simp

/-- STRUCTURAL is no code that is written to `ING_OUT` (R128). -/
theorem OutcomeCode.IsIngest.ne_structural {c : OutcomeCode} (h : c.IsIngest) : c ≠ .structural := by
  obtain rfl | rfl | rfl | rfl := h <;> nofun

/-- STRUCTURAL is no code that is written to `DEC_OUT` (R128). -/
theorem OutcomeCode.IsDecode.ne_structural {c : OutcomeCode} (h : c.IsDecode) : c ≠ .structural := by
  obtain rfl | rfl | rfl | rfl | rfl | rfl := h <;> nofun

/-- Settles O30: the record is written by an accepted frame and by a restart, and the outcomes written
are those of R33. -/
theorem recordIsWrittenOnlyByAnAcceptedFrame :
    Obligations.RecordIsWrittenOnlyByAnAcceptedFrame := by
  intro i s t h
  obtain ⟨f, hf, rfl⟩ := effect_of_exec h
  cases hf with
  | ingested _ _ _ code => simp [code.ne_structural]
  | rejected _ _ _ code _ => simp [code.ne_structural]
  | tickRejected _ _ _ _ ingCode decCode _ =>
    simp [ingCode.ne_structural, decCode.ne_structural]
  | tickAccepted _ _ _ _ ingCode => simp [ingCode.ne_structural]
  | _ => simp

/-! ### The STATUS bits (R32) -/

/-- No command but RESET clears a STATUS bit, and what sets `STG_OVF` and `AQI_VALID`. -/
theorem Effect.status {i : Instr} {s : State} {f : State → State} (hf : Effect s i f)
    (hi : i ≠ .reset) :
    (f s).ill = s.ill ∧
      ((f s).stgOvf = true ↔ s.stgOvf = true ∨ ((∃ b, i = .stage b) ∧ 32 ≤ s.chunk.length)) ∧
      ((f s).aqi.valid = true ↔
        s.aqi.valid = true ∨
          (((∃ v, i = .avgPush v) ∨ ((i = .decode ∨ i = .tick) ∧ (f s).decOut = .ok)) ∧
            (avgState (f s) = .filling ∨ avgState (f s) = .full))) := by
  cases hf with
  | staged b room => simp [room]
  | overflowed b full => simp [full]
  | rejected _ _ _ _ notOk | tickRejected _ _ _ _ _ _ notOk => simp [notOk]
  | accepted | tickAccepted | pushed => simp [acceptReading_aqi_valid]
  | restarted => exact absurd rfl hi
  | _ => simp

/-- Settles O46, from the effects of the commands and that of an illegal word. -/
theorem onlyResetClearsAStatusBit : Obligations.OnlyResetClearsAStatusBit := by
  refine ⟨fun i s t hi h => ?_, fun w e s h => acceptWord_of_error h s,
    fun s => ⟨s.restart, rfl, rfl, rfl, rfl⟩⟩
  obtain ⟨f, hf, rfl⟩ := effect_of_exec h
  exact hf.status hi

/-! ### Codes, and the registers after reset (R31, R33, R35) -/

/-- Settles O48: the tables, read off. -/
theorem codesAreNumberedAsTheTablesSay : Obligations.CodesAreNumberedAsTheTablesSay := by
  unfold Obligations.CodesAreNumberedAsTheTablesSay
  decide

/-- CONFIG as a sum: its four fields share no bit (R34, R194). -/
theorem regRead_config (s : State) :
    regRead s 0x001#10 = BitVec.ofNat 32
      (s.build.windowN.toNat + 256 * s.build.reportPartial.toNat + 65536 * 200 + 16777216 * 32) := by
  have hread : regRead s 0x001#10 =
      BitVec.ofNat 32 s.build.windowN.toNat ||| (flagWord s.build.reportPartial <<< 8)
        ||| (BitVec.ofNat 32 200 <<< 16) ||| (BitVec.ofNat 32 32 <<< 24) := rfl
  rw [hread]
  cases s.build.windowN <;> cases s.build.reportPartial <;> decide

section

variable (b : Build)

@[simp] theorem resetOf_buf : (State.resetOf b).buf = [] := rfl
@[simp] theorem resetOf_chunk : (State.resetOf b).chunk = [] := rfl
@[simp] theorem resetOf_ingOut : (State.resetOf b).ingOut = .none := rfl
@[simp] theorem resetOf_decOut : (State.resetOf b).decOut = .none := rfl
@[simp] theorem resetOf_ill : (State.resetOf b).ill = false := rfl
@[simp] theorem resetOf_stgOvf : (State.resetOf b).stgOvf = false := rfl
@[simp] theorem resetOf_aqi :
    (State.resetOf b).aqi = { valid := false, val := 0, err := false, band := .none, color := 0 } := rfl
@[simp] theorem resetOf_lookup :
    (State.resetOf b).lookup =
      { aqiVal := 0, aqiErr := false, band := .none, cband := .none, color := 0 } := rfl

/-- After reset the averager is empty, whatever the build (R35). -/
@[simp] theorem avgState_resetOf : avgState (State.resetOf b) = .empty := rfl

@[simp] theorem avgX10_resetOf : avgX10 (State.resetOf b) = 0 := rfl

@[simp] theorem win_resetOf : win (State.resetOf b) = [] := rfl

@[simp] theorem avgCount_resetOf : avgCount (State.resetOf b) = 0 := rfl

@[simp] theorem avgSum_resetOf : avgSum (State.resetOf b) = 0 := rfl

/-- Each of the thirteen record registers is 0 after reset. -/
@[simp] theorem record_get_resetOf (k : Nat) : (State.resetOf b).record.get k = 0 := by
  have hzero : (State.resetOf b).record.toList = List.replicate 13 0 := rfl
  rw [MeasurementRecord.get, hzero, List.getD_eq_getElem?_getD, List.getElem?_replicate]
  split <;> rfl

/-- No STATUS bit is set after reset (R32). -/
@[simp] theorem statusWord_resetOf : statusWord (State.resetOf b) = 0 := by
  simp [statusWord, flagWord]

end

/-- Every register but ID, CONFIG and the three band registers reads 0 after reset (R31, R35). -/
theorem regRead_resetOf_zero (b : Build) (a : RegAddr) (hid : a ≠ 0x000#10) (hcfg : a ≠ 0x001#10)
    (hband : a ≠ 0x025#10) (hmap : a ≠ 0x029#10) (hcband : a ≠ 0x02A#10) :
    regRead (State.resetOf b) a = 0#32 := by
  have hnat (k : Nat) (h : a ≠ BitVec.ofNat 10 k) : a.toNat ≠ k := fun heq =>
    h (by rw [← heq, BitVec.ofNat_toNat, BitVec.setWidth_eq])
  unfold regRead
  rw [if_neg (hnat 0x000 hid), if_neg (hnat 0x001 hcfg),
    if_neg (hnat 0x025 hband), if_neg (hnat 0x029 hmap),
    if_neg (hnat 0x02A hcband)]
  simp [OutcomeCode.code, AvgState.code, flagWord]

/-- Settles O45: the five registers that do not read 0, each read off, and all the others together. -/
theorem registersAfterReset : Obligations.RegistersAfterReset := by
  refine fun b => ⟨avgCount_resetOf b, avgSum_resetOf b, avgState_resetOf b, avgX10_resetOf b,
    fun a => ?_⟩
  by_cases hid : a = 0x000#10
  · rw [if_pos hid, hid]
    rfl
  by_cases hcfg : a = 0x001#10
  · rw [if_neg hid, if_pos hcfg, hcfg, regRead_config]
    rfl
  by_cases hbands : a = 0x025#10 ∨ a = 0x029#10 ∨ a = 0x02A#10
  · rw [if_neg hid, if_neg hcfg, if_pos hbands]
    obtain rfl | rfl | rfl := hbands <;> rfl
  · rw [if_neg hid, if_neg hcfg, if_neg hbands]
    push Not at hbands
    obtain ⟨hband, hmap, hcband⟩ := hbands
    exact regRead_resetOf_zero b a hid hcfg hband hmap hcband

/-! ### What a step keeps (R211, R220) -/

/-- A property that every command, an illegal word, and the host's own fields keep, is kept by a step. -/
theorem step_keeps {P : State → Prop} {s t : State} (hinputs : ∀ u ps, P u → P (u.setInputs ps))
    (hrdAddr : ∀ u a, P u → P (u.setRdAddr a)) (hill : ∀ u, P u → P u.setIll)
    (heffect : ∀ i u f, Effect u i f → P u → P (f u)) (hs : P s) (hstep : step s = .next t) : P t := by
  obtain ⟨-, h⟩ | ⟨p, rest, -, ⟨w, -, h⟩ | ⟨-, h⟩ | ⟨a, -, h⟩⟩ := step_cases s <;> rw [h] at hstep
  · cases hstep
    exact hs
  · obtain ⟨i, -, hw⟩ | ⟨e, -, hw⟩ := acceptWord_cases w (s.setInputs rest) <;> rw [hw] at hstep
    · obtain ⟨f, hf, rfl⟩ := effect_of_exec hstep
      exact heffect i _ f hf (hinputs s rest hs)
    · cases hstep
      exact hill _ (hinputs s rest hs)
  · cases hstep
    exact heffect .reset _ _ .restarted (hinputs s rest hs)
  · cases hstep
    exact hrdAddr _ a (hinputs s rest hs)

/-- No effect changes the build (R8, R34). -/
theorem Effect.build_eq {i : Instr} {s : State} {f : State → State} (hf : Effect s i f) (u : State) :
    (f u).build = u.build := by
  cases hf <;> rfl

/-- Settles O49: CONFIG is read from the build, and no effect changes the build. -/
theorem configIsConstant : Obligations.ConfigIsConstant := by
  intro s t hstep
  have hbuild : t.build = s.build :=
    step_keeps (P := fun u => u.build = s.build) (fun _ _ h => h) (fun _ _ h => h) (fun _ h => h)
      (fun _ u _ hf h => (hf.build_eq u).trans h) rfl hstep
  exact ⟨hbuild, by rw [regRead_config, regRead_config, hbuild]⟩

/-- The window after reset is in range (R26, R35). -/
theorem Window.reset_inRange (b : Build) : (Window.reset b).InRange (windowLen b) := by
  refine ⟨List.length_replicate, ?_, Nat.zero_le _⟩
  obtain h | h := windowLen_cases b <;> rw [h] <;> exact Nat.zero_lt_succ _

/-- The state after reset is in range. -/
theorem resetOf_inv (b : Build) : (State.resetOf b).Inv :=
  ⟨Nat.zero_le _, Nat.zero_le _, Window.reset_inRange b, .inl rfl, .inl rfl,
    ⟨fun _ => ⟨rfl, rfl, rfl, rfl⟩, nofun, nofun, nofun⟩, nofun, nofun⟩

/-- Settles O54: the model's own reset state is one of them. -/
theorem resetStateIsInRange : Obligations.ResetStateIsInRange :=
  ⟨resetOf_inv Config.resetBuild, resetOf_inv⟩

/-- The registers of a reported average are coherent: they are valid, and their band is none of NONE. -/
theorem aqiRegsFor_coherent (b : Build) (c : Conc) : (aqiRegsFor b c).Coherent := by
  refine ⟨nofun, fun _ => ?_, beq_iff_eq⟩
  show (aqiOf b c).2 ≠ .none
  rw [aqiOf_band]
  exact bandCodeOf_ne_none _

/-- `aqi_update` keeps the AQI registers coherent (R176). -/
theorem aqiAfter_coherent (b : Build) (w : Window) {old : AqiRegs} (h : old.Coherent) :
    (aqiAfter b w old).Coherent := by
  obtain ⟨-, hnew⟩ | ⟨-, hold⟩ := aqiAfter_cases b w old
  · rw [hnew]
    exact aqiRegsFor_coherent b _
  · rwa [hold]

/-- A reading keeps the block in range. -/
theorem acceptReading_inv {s : State} (v : Word16) (h : s.Inv) : (acceptReading s v).Inv := by
  obtain ⟨hbuf, hchunk, hwin, hing, hdec, haqi, hlookup⟩ := h
  exact ⟨hbuf, hchunk, Window.push_inRange _ _ v hwin, hing, hdec, aqiAfter_coherent _ _ haqi, hlookup⟩

/-- The outcome of an accepted frame is a code of `DEC_OUT` (R33). -/
theorem OutcomeCode.isDecode_ok : OutcomeCode.ok.IsDecode := by decide

/-- Every effect keeps the block in range. -/
theorem Effect.inv {i : Instr} {s : State} {f : State → State} (hf : Effect s i f) (h : s.Inv) :
    (f s).Inv := by
  have ⟨hbuf, hchunk, hwin, hing, hdec, haqi, hlookup⟩ := h
  cases hf with
  | nop => exact h
  | overflowed => exact h
  | staged b room =>
    refine ⟨hbuf, ?_, hwin, hing, hdec, haqi, hlookup⟩
    simpa using Nat.succ_le_of_lt room
  | ingested bs c fits code => exact ⟨fits, Nat.zero_le _, hwin, code, hdec, haqi, hlookup⟩
  | rejected bs c fits code => exact ⟨fits.trans hbuf, hchunk, hwin, hing, code, haqi, hlookup⟩
  | accepted bs r fits =>
    exact acceptReading_inv _
      ⟨fits.trans hbuf, hchunk, hwin, hing, OutcomeCode.isDecode_ok, haqi, hlookup⟩
  | tickRejected bs ing dec fits ingCode decCode =>
    exact ⟨fits, Nat.zero_le _, hwin, ingCode, decCode, haqi, hlookup⟩
  | tickAccepted bs ing r fits ingCode =>
    exact acceptReading_inv _
      ⟨fits, Nat.zero_le _, hwin, ingCode, OutcomeCode.isDecode_ok, haqi, hlookup⟩
  | pushed v => exact acceptReading_inv v h
  | aqiMapped c => exact ⟨hbuf, hchunk, hwin, hing, hdec, haqi, beq_iff_eq⟩
  | colorMapped a => exact ⟨hbuf, hchunk, hwin, hing, hdec, haqi, hlookup⟩
  | restarted => exact resetOf_inv s.build

/-- Settles O53: what the host does at the ports and `ILL` are not bounded, and every effect keeps the
bounds. -/
theorem everyStepKeepsTheStateInRange : Obligations.EveryStepKeepsTheStateInRange :=
  fun _ _ hs hstep =>
    step_keeps (P := State.Inv) (fun _ _ h => h) (fun _ _ h => h) (fun _ h => h)
      (fun _ _ _ hf h => hf.inv h) hs hstep

/-! ### The logical window after a push (R151) -/

/-- Two offsets from one index are the same slot of the ring only if they are equal. -/
theorem ring_slot_inj {n i j : Nat} (head : Nat) (hi : i < n) (hj : j < n)
    (h : (head + i) % n = (head + j) % n) : i = j := by
  have hmod : i ≡ j [MOD n] := Nat.ModEq.add_left_cancel' head h
  exact Nat.ModEq.eq_of_lt_of_lt hmod hi hj

/-- A push into a window that is not full appends the reading. -/
theorem Window.contents_push_filling {n : Nat} {w : Window} (v : Word16) (h : w.InRange n)
    (hf : w.count < n) : (w.push n v).contents n = w.contents n ++ [v] := by
  obtain ⟨hmem, hhead, -⟩ := h
  have hslot : (w.head + w.count) % n < w.mem.length := hmem ▸ Nat.mod_lt _ (by omega)
  rw [Window.push_filling n w v hf]
  simp only [Window.contents, List.range_succ, List.map_append, List.map_cons, List.map_nil]
  congr 1
  · refine List.map_congr_left fun i hi => ?_
    have hi' : i < w.count := List.mem_range.mp hi
    have hne : (w.head + w.count) % n ≠ (w.head + i) % n := fun heq =>
      Nat.ne_of_gt hi' (ring_slot_inj w.head hf (hi'.trans hf) heq)
    simp [List.getD_eq_getElem?_getD, List.getElem?_set_ne hne]
  · simp [List.getD_eq_getElem?_getD, List.getElem?_set_self hslot]

/-- A push into a full window evicts the oldest entry and appends the reading. -/
theorem Window.contents_push_full {n : Nat} {w : Window} (v : Word16) (h : w.InRange n)
    (hf : ¬w.count < n) : (w.push n v).contents n = (w.contents n).drop 1 ++ [v] := by
  obtain ⟨hmem, hhead, hcount⟩ := h
  obtain ⟨m, rfl⟩ : ∃ m, n = m + 1 := ⟨n - 1, by omega⟩
  have hc : w.count = m + 1 := by omega
  have hlast : ((w.head + 1) % (m + 1) + m) % (m + 1) = w.head := by
    rw [Nat.mod_add_mod, Nat.add_assoc, Nat.add_comm 1 m, Nat.add_mod_right, Nat.mod_eq_of_lt hhead]
  have htail : (w.contents (m + 1)).drop 1 =
      (List.range m).map fun i => w.mem.getD ((w.head + (i + 1)) % (m + 1)) 0 := by
    simp [Window.contents, hc, List.range_succ_eq_map, Function.comp_def]
  rw [htail, Window.push_full _ w v hf]
  simp only [Window.contents, hc, List.range_succ, List.map_append, List.map_cons, List.map_nil]
  congr 1
  · refine List.map_congr_left fun i hi => ?_
    have hi' : i < m := List.mem_range.mp hi
    have hslot : ((w.head + 1) % (m + 1) + i) % (m + 1) = (w.head + (i + 1)) % (m + 1) := by
      rw [Nat.mod_add_mod, Nat.add_assoc, Nat.add_comm 1 i]
    have hne : w.head ≠ (w.head + (i + 1)) % (m + 1) := fun heq =>
      Nat.succ_ne_zero i (ring_slot_inj w.head (Nat.zero_lt_succ m) (Nat.succ_lt_succ hi')
        ((Nat.mod_eq_of_lt hhead).trans heq)).symm
    simp [hslot, List.getD_eq_getElem?_getD, List.getElem?_set_ne hne]
  · simp [hlast, List.getD_eq_getElem?_getD, List.getElem?_set_self (hmem ▸ hhead)]

/-- A push depends on the logical window alone. -/
theorem Window.contents_push {n : Nat} {w : Window} (v : Word16) (h : w.InRange n) :
    (w.push n v).contents n =
      if (w.contents n ++ [v]).length > n then (w.contents n ++ [v]).drop 1 else w.contents n ++ [v] := by
  have hlen : (w.contents n ++ [v]).length = w.count + 1 := by simp
  by_cases hf : w.count < n
  · rw [Window.contents_push_filling v h hf, if_neg (by omega)]
  · have hpos : 1 ≤ (w.contents n).length := by
      obtain ⟨-, hhead, -⟩ := h
      rw [Window.contents_length]
      omega
    rw [Window.contents_push_full v h hf, if_pos (by omega), List.drop_append_of_le_length hpos]

/-! ### One logical window, stored in two ways (R27)

`s.setWindow w` is the state that differs from `s` in its window's storage alone. -/

/-- Two storages of `n` entries, both in range, hold one logical window. -/
structure Window.SameContents (n : Nat) (w w' : Window) : Prop where
  left : w.InRange n
  right : w'.InRange n
  contents : w'.contents n = w.contents n

/-- They have equally many entries. -/
theorem Window.SameContents.count_eq {n : Nat} {w w' : Window} (h : w.SameContents n w') :
    w'.count = w.count := by
  rw [← Window.contents_length n w', h.contents, Window.contents_length]

/-- After a push of one reading they hold one logical window again. -/
theorem Window.SameContents.push {n : Nat} {w w' : Window} (h : w.SameContents n w') (v : Word16) :
    (w.push n v).SameContents n (w'.push n v) where
  left := Window.push_inRange n w v h.left
  right := Window.push_inRange n w' v h.right
  contents := by rw [Window.contents_push v h.right, Window.contents_push v h.left, h.contents]

/-! What the averager and the pipeline derive from the window (R30, R176) is then the same. -/

section

variable {b : Build} {w w' : Window}

theorem Window.SameContents.averagerState_eq (h : w.SameContents (windowLen b) w') :
    averagerState b w' = averagerState b w := by
  simp only [averagerState, h.count_eq]

theorem Window.SameContents.windowSum_eq (h : w.SameContents (windowLen b) w') :
    windowSum b w' = windowSum b w := by
  simp only [windowSum, h.contents]

theorem Window.SameContents.averageX10_eq (h : w.SameContents (windowLen b) w') :
    averageX10 b w' = averageX10 b w := by
  simp only [averageX10, h.averagerState_eq, h.windowSum_eq, h.count_eq]

theorem Window.SameContents.aqiAfter_eq (h : w.SameContents (windowLen b) w') (old : AqiRegs) :
    aqiAfter b w' old = aqiAfter b w old := by
  simp only [aqiAfter, h.averagerState_eq, h.averageX10_eq]

end

/-- No register shows more of the window than its logical contents (R27, R31). -/
theorem regRead_setWindow {s : State} {w : Window}
    (h : s.window.SameContents (windowLen s.build) w) (a : RegAddr) :
    regRead (s.setWindow w) a = regRead s a := by
  have hcount : avgCount (s.setWindow w) = avgCount s := h.count_eq
  have hsum : avgSum (s.setWindow w) = avgSum s := h.windowSum_eq
  have hstate : avgState (s.setWindow w) = avgState s := h.averagerState_eq
  have hx10 : avgX10 (s.setWindow w) = avgX10 s := h.averageX10_eq
  have hwin : win (s.setWindow w) = win s := h.contents
  have hstatus : statusWord (s.setWindow w) = statusWord s := rfl
  simp [regRead, hcount, hsum, hstate, hx10, hwin, hstatus]

/-- A reading enters both storages, and the AQI registers cannot tell them apart. -/
theorem acceptReading_setWindow {s : State} {w : Window} (v : Word16)
    (h : s.window.SameContents (windowLen s.build) w) :
    acceptReading (s.setWindow w) v =
      (acceptReading s v).setWindow (w.push (windowLen s.build) v) := by
  have haqi := (h.push v).aqiAfter_eq s.aqi
  simp only [acceptReading_eq, State.setWindow_build, State.setWindow_window, State.setWindow_aqi, haqi]
  rfl

/-- Every effect leaves two storages of one logical window again, and nothing else differs. -/
theorem Effect.setWindow {i : Instr} {s : State} {f : State → State} (hf : Effect s i f) {w : Window}
    (h : s.window.SameContents (windowLen s.build) w) :
    ∃ w', f (s.setWindow w) = (f s).setWindow w' ∧
      (f s).window.SameContents (windowLen (f s).build) w' := by
  cases hf with
  | pushed v => exact ⟨_, acceptReading_setWindow v h, h.push v⟩
  | accepted bs r =>
    exact ⟨_, acceptReading_setWindow (s := ((s.setBuf bs).setRecord r).setDecOut .ok) _ h, h.push _⟩
  | tickAccepted bs ing r =>
    exact ⟨_, acceptReading_setWindow
      (s := ((((s.setChunk []).setIngOut ing).setBuf bs).setRecord r).setDecOut .ok) _ h, h.push _⟩
  | restarted =>
    exact ⟨_, rfl, Window.reset_inRange s.build, Window.reset_inRange s.build, rfl⟩
  | _ => exact ⟨w, rfl, h⟩

/-- So does an accepted word, legal or not. -/
theorem acceptWord_setWindow (x : Word32) {s : State} {w : Window}
    (h : s.window.SameContents (windowLen s.build) w) :
    ∃ t w', acceptWord x s = .next t ∧ acceptWord x (s.setWindow w) = .next (t.setWindow w') ∧
      t.window.SameContents (windowLen t.build) w' := by
  cases hdec : decode x with
  | ok i =>
    obtain ⟨f, hf, hexec⟩ := exec_effect i s
    obtain ⟨w', heq, h'⟩ := hf.setWindow h
    refine ⟨f s, w', ?_, ?_, h'⟩
    · rw [acceptWord_of_ok hdec, hexec s rfl rfl]
    · rw [acceptWord_of_ok hdec, hexec (s.setWindow w) rfl rfl, heq]
  | error e =>
    exact ⟨s.setIll, w, acceptWord_of_error hdec s, acceptWord_of_error hdec _, h⟩

/-- So does a step: both states serve the same input. -/
theorem step_setWindow {s : State} {w : Window}
    (h : s.window.SameContents (windowLen s.build) w) :
    ∃ t w', step s = .next t ∧ step (s.setWindow w) = .next (t.setWindow w') ∧
      t.window.SameContents (windowLen t.build) w' := by
  cases hin : s.inputs with
  | nil => exact ⟨s, w, by simp [step, hin], by simp [step, hin], h⟩
  | cons p rest =>
    rw [step_of_inputs hin, step_of_inputs (s := s.setWindow w) hin]
    cases p with
    | command x => exact acceptWord_setWindow x (s := s.setInputs rest) h
    | resetPulse =>
      obtain ⟨w', heq, h'⟩ := (Effect.restarted (s := s.setInputs rest)).setWindow h
      exact ⟨_, w', rfl, congrArg _ heq, h'⟩
    | readAddr a => exact ⟨_, w, rfl, rfl, h⟩

/-- Settles O51: the reads depend on the logical window alone, and a step keeps it one and the same. -/
theorem hiddenWindowStorageIsNotObservable : Obligations.HiddenWindowStorageIsNotObservable := by
  intro s w hs hw hcontents
  have h : s.window.SameContents (windowLen s.build) w := ⟨hs, hw, hcontents⟩
  obtain ⟨t, w', hstep, hstep', ht, hw', hcontents'⟩ := step_setWindow h
  exact ⟨regRead_setWindow h, t, w', hstep, hstep', ht, hw', hcontents'⟩

end Sys2Proof.Machine
end

section
/-! The memory family: what alignment takes from a byte sequence (R66, R103), and what a read of the
ready block returns (R65, R67). -/

namespace Sys2Proof.Machine

/-! ### Alignment (R66, R103) -/

/-- What alignment discards is a run of leading bytes, none of them the header byte. -/
theorem alignBytes_discards_junk (bs : List Byte) :
    ∃ junk, bs = junk ++ alignBytes bs ∧ ∀ b ∈ junk, b ≠ 0x42#8 := by
  induction bs with
  | nil => exact ⟨[], rfl, by simp⟩
  | cons b bs ih =>
    by_cases hb : b = 0x42#8
    · exact ⟨[], by rw [hb, alignBytes_header, List.nil_append], by simp⟩
    · obtain ⟨junk, hbs, hjunk⟩ := ih
      refine ⟨b :: junk, ?_, List.forall_mem_cons.2 ⟨hb, hjunk⟩⟩
      rw [alignBytes_junk b bs hb, List.cons_append, ← hbs]

/-- An aligned sequence that is not empty begins with the header byte. -/
theorem alignBytes_nil_or_head (bs : List Byte) :
    alignBytes bs = [] ∨ (alignBytes bs).head? = some 0x42#8 := by
  obtain h | ⟨rest, h⟩ := alignBytes_cases bs
  · exact .inl h
  · exact .inr (by rw [h, List.head?_cons])

/-- A sequence that begins with the header byte loses nothing. -/
theorem alignBytes_of_head {bs : List Byte} (h : bs.head? = some 0x42#8) : alignBytes bs = bs := by
  obtain ⟨rest, rfl⟩ := List.head?_eq_some_iff.1 h
  exact alignBytes_header rest

/-- A sequence without the header byte loses everything: what is left could only begin with it. -/
theorem alignBytes_of_not_mem {bs : List Byte} (h : 0x42#8 ∉ bs) : alignBytes bs = [] := by
  obtain ⟨junk, hbs, -⟩ := alignBytes_discards_junk bs
  obtain hnil | ⟨rest, hrest⟩ := alignBytes_cases bs
  · exact hnil
  · rw [hbs, hrest] at h
    simp at h

/-- Settles O16: one lemma a clause. -/
theorem alignmentDiscardsOnlyLeadingJunk : Obligations.AlignmentDiscardsOnlyLeadingJunk := fun bs =>
  ⟨alignBytes_discards_junk bs, alignBytes_nil_or_head bs, alignBytes_of_head, alignBytes_of_not_mem⟩

/-! ### A read of the ready block (R65, R67) -/

/-- No register depends on the address the host reads (R31). -/
@[simp] theorem regRead_setRdAddr (s : State) (x a : RegAddr) :
    regRead (s.setRdAddr x) a = regRead s a := rfl

/-- Other host inputs behind a run of words stay behind its result. -/
theorem runWords_setInputs (ps : List PortInput) {ws : List Word32} {s t : State}
    (h : runWords ws s = .next t) : runWords ws (s.setInputs ps) = .next (t.setInputs ps) := by
  induction ws generalizing s with
  | nil =>
    cases h
    rfl
  | cons w ws ih =>
    obtain ⟨u, hu⟩ := acceptWord_next w s
    rw [runWords_cons_of_next hu] at h
    rw [runWords_cons_of_next (acceptWord_setInputs s ps hu)]
    exact ih h

/-- Every step answers a next state (R193, R211, R220). -/
theorem step_next (s : State) : ∃ t, step s = .next t := by
  obtain ⟨-, h⟩ | ⟨p, rest, -, ⟨w, -, h⟩ | ⟨-, h⟩ | ⟨a, -, h⟩⟩ := step_cases s
  · exact ⟨s, h⟩
  · rw [h]
    exact acceptWord_next w _
  · exact ⟨_, h⟩
  · exact ⟨_, h⟩

/-- The last step of a run of the machine, after the others. -/
theorem run_succ_last {k : Nat} {s t : State} (h : Host.Core.run core k s = .next t) :
    Host.Core.run core (k + 1) s = step t := by
  induction k generalizing s with
  | zero =>
    cases h
    obtain ⟨u, hu⟩ := step_next t
    rw [run_succ_of_next hu, hu]
    rfl
  | succ k ih =>
    obtain ⟨u, hu⟩ := step_next s
    rw [run_succ_of_next hu] at h ⊢
    exact ih h

/-- Settles O11: as many steps as words leave the read address next to be served, and serving it sets
`rd_addr` and nothing else. -/
theorem readReturnsWhatTheCommandsBeforeItLeft :
    Obligations.ReadReturnsWhatTheCommandsBeforeItLeft := by
  intro ws s a later hin
  obtain ⟨v, hv⟩ := runWords_next ws s
  have hqueue : s.setInputs (ws.map PortInput.command ++ .readAddr a :: later) = s := by
    rw [← hin, State.setInputs_self]
  have hwords : Host.Core.run core ws.length s = .next (v.setInputs (.readAddr a :: later)) := by
    have hrun := run_queued_words ws s (.readAddr a :: later)
    rwa [hqueue, runWords_setInputs _ hv] at hrun
  have hread : step (v.setInputs (.readAddr a :: later)) =
      .next ((v.setInputs later).setRdAddr a) := step_of_inputs (State.setInputs_inputs v _)
  exact ⟨v.setInputs later, (v.setInputs later).setRdAddr a, runWords_setInputs later hv,
    (run_succ_last hwords).trans hread, rfl, rfl, regRead_setRdAddr _ a a,
    fun _ => regRead_setRdAddr _ a a⟩

end Sys2Proof.Machine
end

section
/-! The encoding family. The decoder, the encoder and the opcode map as one table by mnemonic (R81 to
R85), and from it the words of the assembly lines (R86, R87). -/

namespace Sys2Proof

open Machine

/-! ### One row for each mnemonic (R83) -/

/-- The opcode of a mnemonic's command (R83). -/
def Mnemonic.opcode : Mnemonic → Nat
  | .nop => 0
  | .ingest => 1
  | .decode => 2
  | .tick => 3
  | .avgPush => 4
  | .aqiMap => 5
  | .colorMap => 6
  | .stage => 7
  | .reset => 15

/-- How many low bits of a mnemonic's words hold the operand (R81). -/
def Mnemonic.immBits (m : Mnemonic) : Nat := m.format.immBits

/-- The row that R83 gives a mnemonic: its opcode stands in the four high bits, and its mask leaves
out the bits of the operand. -/
def Mnemonic.row (m : Mnemonic) : OpcodeRow where
  mnemonic := m
  opcode := BitVec.ofNat 4 m.opcode
  pattern := BitVec.ofNat 32 (m.opcode * 2 ^ 28)
  mask := BitVec.allOnes 32 <<< m.immBits

/-- The opcode map as printed has these rows, in opcode order. -/
theorem opcodeMap_eq_rows : opcodeMap = allMnemonics.map Mnemonic.row := by decide

/-- The operand lies below the opcode. -/
theorem Mnemonic.immBits_lt (m : Mnemonic) : m.immBits < 28 := by
  cases m <;> decide

/-- A word has the opcode of some mnemonic, or one of the reserved space 0x8 to 0xE (R85). -/
theorem opcode_cases (w : Word32) :
    (∃ m : Mnemonic, w.toNat / 2 ^ 28 = m.opcode) ∨
      (8 ≤ w.toNat / 2 ^ 28 ∧ w.toNat / 2 ^ 28 ≤ 14) := by
  have hword := w.isLt
  by_cases hres : 8 ≤ w.toNat / 2 ^ 28 ∧ w.toNat / 2 ^ 28 ≤ 14
  · exact .inr hres
  have hlegal : w.toNat / 2 ^ 28 < 8 ∨ w.toNat / 2 ^ 28 = 15 := by omega
  generalize w.toNat / 2 ^ 28 = op at hlegal ⊢
  obtain hlow | rfl := hlegal
  · refine .inl ?_
    interval_cases op
    · exact ⟨.nop, rfl⟩
    · exact ⟨.ingest, rfl⟩
    · exact ⟨.decode, rfl⟩
    · exact ⟨.tick, rfl⟩
    · exact ⟨.avgPush, rfl⟩
    · exact ⟨.aqiMap, rfl⟩
    · exact ⟨.colorMap, rfl⟩
    · exact ⟨.stage, rfl⟩
  · exact .inl ⟨.reset, rfl⟩

/-! ### The decoder by mnemonic (R84) -/

/-- A low field of at most 28 bits is cut from the word below its opcode. -/
theorem low_eq_ofNat (w : Word32) (hi : Nat) (h : hi < 28) :
    w.extractLsb hi 0 = BitVec.ofNat _ (w.toNat % 2 ^ 28) := by
  have hdvd : 2 ^ (hi + 1) ∣ 2 ^ 28 := Nat.pow_dvd_pow 2 (by omega)
  apply BitVec.eq_of_toNat_eq
  rw [low_toNat, BitVec.toNat_ofNat, Nat.sub_zero, Nat.mod_mod_of_dvd _ hdvd]

/-- The reserved bits `w[27:lo]` are 0 exactly when the word below its opcode is under 2^lo (R81). -/
theorem requireZero_eq_ite (w : Word32) (i : Instr) {lo : Nat} (h : lo < 28) :
    requireZero w lo i =
      if w.toNat % 2 ^ 28 < 2 ^ lo then .ok i else .error (.reservedBits (opcodeOf w)) := by
  have hsplit : 2 ^ 28 = 2 ^ lo * 2 ^ (27 - lo + 1) := by
    rw [← Nat.pow_add, show lo + (27 - lo + 1) = 28 by omega]
  have hbits : w.extractLsb 27 lo = 0 ↔ w.toNat % 2 ^ 28 < 2 ^ lo := by
    rw [reserved_zero_iff, hsplit, ← Nat.mod_mul_right_div_self, Nat.div_eq_zero_iff]
    simp
  simp only [requireZero, hbits]

/-- The decoder tests the reserved bits of the format that the opcode selects. -/
theorem decode_eq_requireZero {w : Word32} {m : Mnemonic} (h : w.toNat / 2 ^ 28 = m.opcode) :
    decode w = requireZero w m.immBits (commandOf m (w.toNat % 2 ^ 28)) := by
  rw [decode_eq, show w.toNat / 268435456 = m.opcode from h]
  cases m with
  | avgPush => exact congrArg (requireZero w 16 <| .avgPush ·) (low_eq_ofNat w 15 (by decide))
  | aqiMap => exact congrArg (requireZero w 20 <| .aqiMap ·) (low_eq_ofNat w 19 (by decide))
  | colorMap => exact congrArg (requireZero w 10 <| .colorMap ·) (low_eq_ofNat w 9 (by decide))
  | stage => exact congrArg (requireZero w 8 <| .stage ·) (low_eq_ofNat w 7 (by decide))
  | nop | ingest | decode | tick | reset => rfl

/-- A word with a legal opcode is its mnemonic's command, or has a reserved bit that is not 0. -/
theorem decode_of_opcode {w : Word32} {m : Mnemonic} (h : w.toNat / 2 ^ 28 = m.opcode) :
    decode w =
      if w.toNat % 2 ^ 28 < 2 ^ m.immBits then .ok (commandOf m (w.toNat % 2 ^ 28))
      else .error (.reservedBits (opcodeOf w)) := by
  rw [decode_eq_requireZero h, requireZero_eq_ite w _ m.immBits_lt]

/-- A word of the reserved opcode space is illegal. -/
theorem decode_of_reserved {w : Word32} (h : 8 ≤ w.toNat / 2 ^ 28 ∧ w.toNat / 2 ^ 28 ≤ 14) :
    decode w = .error (.reservedOpcode (opcodeOf w)) := by
  obtain ⟨hlo, hhi⟩ := h
  rw [decode_eq]
  repeat rw [if_neg (by omega)]

/-! ### The encoder by mnemonic (R81 to R83) -/

/-- A command's word is its opcode above its operand. -/
theorem encode_commandOf_toNat {m : Mnemonic} {v : Nat} (h : v < 2 ^ m.immBits) :
    (encode (commandOf m v)).toNat = m.opcode * 2 ^ 28 + v := by
  cases m with
  | avgPush => exact (encode_avgPush_toNat _).trans (congrArg (0x40000000 + ·) (Nat.mod_eq_of_lt h))
  | aqiMap => exact (encode_aqiMap_toNat _).trans (congrArg (0x50000000 + ·) (Nat.mod_eq_of_lt h))
  | colorMap => exact (encode_colorMap_toNat _).trans (congrArg (0x60000000 + ·) (Nat.mod_eq_of_lt h))
  | stage => exact (encode_stage_toNat _).trans (congrArg (0x70000000 + ·) (Nat.mod_eq_of_lt h))
  | nop | ingest | decode | tick | reset =>
    obtain rfl : v = 0 := Nat.lt_one_iff.mp h
    rfl

/-- Every command is its mnemonic's, with an operand in the format's range (R82). -/
theorem exists_commandOf (i : Instr) : ∃ m v, v < 2 ^ Mnemonic.immBits m ∧ i = commandOf m v := by
  cases i with
  | nop => exact ⟨.nop, 0, by decide, rfl⟩
  | ingest => exact ⟨.ingest, 0, by decide, rfl⟩
  | decode => exact ⟨.decode, 0, by decide, rfl⟩
  | tick => exact ⟨.tick, 0, by decide, rfl⟩
  | reset => exact ⟨.reset, 0, by decide, rfl⟩
  | avgPush v => exact ⟨.avgPush, v.toNat, v.isLt, by simp [commandOf]⟩
  | aqiMap c => exact ⟨.aqiMap, c.toNat, c.isLt, by simp [commandOf]⟩
  | colorMap a => exact ⟨.colorMap, a.toNat, a.isLt, by simp [commandOf]⟩
  | stage b => exact ⟨.stage, b.toNat, b.isLt, by simp [commandOf]⟩

/-- The command made of a mnemonic has that mnemonic. -/
@[simp] theorem commandOf_mnemonic (m : Mnemonic) (v : Nat) : (commandOf m v).mnemonic = m := by
  cases m <;> rfl

/-- Settles O2: the word's opcode and low bits are those of the command, which `decode` reads back. -/
theorem decodeOfEncodeIsTheCommand : Obligations.DecodeOfEncodeIsTheCommand := by
  intro i
  obtain ⟨m, v, hv, rfl⟩ := exists_commandOf i
  have hword : (encode (commandOf m v)).toNat = m.opcode * 2 ^ 28 + v := encode_commandOf_toNat hv
  have hv28 : v < 2 ^ 28 := hv.trans (Nat.pow_lt_pow_right (by decide) m.immBits_lt)
  have hop : (encode (commandOf m v)).toNat / 2 ^ 28 = m.opcode := by omega
  have hlow : (encode (commandOf m v)).toNat % 2 ^ 28 = v := by omega
  rw [decode_of_opcode hop, hlow, if_pos hv]

/-- A legal word is made of a mnemonic's opcode and of an operand in its range. -/
theorem decode_ok_cases {w : Word32} {i : Instr} (h : decode w = .ok i) :
    ∃ m : Mnemonic, w.toNat / 2 ^ 28 = m.opcode ∧ w.toNat % 2 ^ 28 < 2 ^ m.immBits ∧
      i = commandOf m (w.toNat % 2 ^ 28) := by
  obtain ⟨m, hop⟩ | hres := opcode_cases w
  · rw [decode_of_opcode hop] at h
    split at h
    · cases h
      exact ⟨m, hop, ‹_›, rfl⟩
    · cases h
  · rw [decode_of_reserved hres] at h
    cases h

/-- Settles O3: a legal word is its opcode above its operand, and so is the encoding of its command. -/
theorem legalWordIsTheEncodingOfItsCommand : Obligations.LegalWordIsTheEncodingOfItsCommand := by
  intro w i hdec
  obtain ⟨m, hop, hlow, rfl⟩ := decode_ok_cases hdec
  apply BitVec.eq_of_toNat_eq
  rw [encode_commandOf_toNat hlow, ← hop, Nat.div_add_mod']

/-! ### The opcode map (R83) -/

/-- Masking out the low bits rounds a word down to a multiple. -/
theorem and_highMask_toNat (w : Word32) (k : Nat) :
    (w &&& BitVec.allOnes 32 <<< k).toNat = w.toNat / 2 ^ k * 2 ^ k := by
  have hle : w.toNat / 2 ^ k * 2 ^ k ≤ w.toNat := Nat.div_mul_le_self _ _
  rw [← BitVec.shiftLeft_ushiftRight, BitVec.toNat_shiftLeft, BitVec.toNat_ushiftRight,
    Nat.shiftRight_eq_div_pow, Nat.shiftLeft_eq, Nat.mod_eq_of_lt (hle.trans_lt w.isLt)]

/-- A row selects the words with its mnemonic's opcode and reserved bits 0. -/
theorem selectedBy_row (m : Mnemonic) (w : Word32) :
    m.row.selectedBy w = true ↔ w.toNat / 2 ^ 28 = m.opcode ∧ w.toNat % 2 ^ 28 < 2 ^ m.immBits := by
  rw [OpcodeRow.selectedBy, beq_iff_eq, Mnemonic.row, ← BitVec.toNat_inj, and_highMask_toNat]
  cases m <;>
    simp only [Mnemonic.opcode, Mnemonic.immBits, Mnemonic.format, Format.immBits,
      BitVec.toNat_ofNat] <;>
    omega

/-- The mnemonics whose rows select a word. -/
theorem selected_mnemonics (w : Word32) :
    ((opcodeMap.filter fun r => r.selectedBy w).map fun r => r.mnemonic) =
      allMnemonics.filter fun m => m.row.selectedBy w := by
  rw [opcodeMap_eq_rows, List.filter_map, List.map_map]
  exact List.map_id _

/-- Each mnemonic stands once in the map. -/
theorem filter_allMnemonics_eq (m : Mnemonic) : (allMnemonics.filter fun m' => m' == m) = [m] := by
  cases m <;> decide

/-- A mnemonic's row selects the words that decode to its commands, and no other. -/
theorem selectedBy_row_iff_decode (m : Mnemonic) (w : Word32) :
    m.row.selectedBy w = true ↔ ∃ i, decode w = .ok i ∧ i.mnemonic = m := by
  rw [selectedBy_row]
  constructor
  · rintro ⟨hop, hlow⟩
    exact ⟨_, by rw [decode_of_opcode hop, if_pos hlow], commandOf_mnemonic m _⟩
  · rintro ⟨i, hdec, rfl⟩
    obtain ⟨m, hop, hlow, rfl⟩ := decode_ok_cases hdec
    rw [commandOf_mnemonic]
    exact ⟨hop, hlow⟩

/-- Settles O4: of the mnemonics' rows, the decoded command's is the one that selects the word. -/
theorem oneOpcodeRowSelectsALegalWord : Obligations.OneOpcodeRowSelectsALegalWord := by
  intro w
  rw [selected_mnemonics]
  cases hdec : decode w with
  | ok i =>
    calc allMnemonics.filter (fun m => m.row.selectedBy w)
      _ = allMnemonics.filter (fun m => m == i.mnemonic) := by
        refine List.filter_congr fun m _ => ?_
        rw [Bool.eq_iff_iff, selectedBy_row_iff_decode, hdec, beq_iff_eq]
        simp [eq_comm]
      _ = [i.mnemonic] := filter_allMnemonics_eq i.mnemonic
  | error e =>
    refine List.filter_eq_nil_iff.mpr fun m _ hsel => ?_
    obtain ⟨i, hok, -⟩ := (selectedBy_row_iff_decode m w).mp hsel
    rw [hdec] at hok
    cases hok

/-- A word with a legal opcode is illegal exactly when a reserved bit is not 0 (R85). -/
theorem decode_error_iff_of_opcode {w : Word32} {m : Mnemonic} (h : w.toNat / 2 ^ 28 = m.opcode) :
    (∃ e, decode w = .error e) ↔ 2 ^ m.immBits ≤ w.toNat % 2 ^ 28 := by
  rw [decode_of_opcode h]
  split
  · simpa using ‹_›
  · simpa using Nat.le_of_not_lt ‹_›

/-- Settles O5:  -/
theorem illegalWordsAreTheReservedOnes : Obligations.IllegalWordsAreTheReservedOnes := by
  refine fun w => ⟨?_, fun s e h => acceptWord_of_error h s⟩
  obtain ⟨m, hop⟩ | hres := opcode_cases w
  · rw [decode_error_iff_of_opcode hop]
    cases m <;>
      simp only [Mnemonic.opcode, Mnemonic.immBits, Mnemonic.format, Format.immBits] at hop ⊢ <;>
      omega
  · exact ⟨fun _ => .inl hres, fun _ => ⟨_, decode_of_reserved hres⟩⟩

/-! ### Words written out, and a step of an illegal word -/

/-- Settles O1: each word is the encoding of its command. -/
theorem wordsWrittenOutDecodeToTheirCommands : Obligations.WordsWrittenOutDecodeToTheirCommands :=
  ⟨decodeOfEncodeIsTheCommand .nop, decodeOfEncodeIsTheCommand .ingest,
    decodeOfEncodeIsTheCommand .decode, decodeOfEncodeIsTheCommand .tick,
    decodeOfEncodeIsTheCommand (.avgPush 0x8001#16), decodeOfEncodeIsTheCommand (.aqiMap 0x80001#20),
    decodeOfEncodeIsTheCommand (.colorMap 0x201#10), decodeOfEncodeIsTheCommand (.stage 0x42#8),
    decodeOfEncodeIsTheCommand .reset⟩

/-- Settles O7: the step serves the word, and an illegal word sets `ILL`. -/
theorem illegalWordOnlySetsIll : Obligations.IllegalWordOnlySetsIll := by
  intro s w rest e hin hdec
  calc step s = acceptWord w (s.setInputs rest) := step_of_inputs hin
    _ = .next (s.setInputs rest).setIll := acceptWord_of_error hdec _

end Sys2Proof

namespace Sys2Proof.Machine

/-! ### The words of an assembly line (R86, R87) -/

/-- The words of a mnemonic with operands in its range, as numbers. -/
theorem encode_commandOf {m : Mnemonic} {v : Nat} (h : v < 2 ^ m.immBits) :
    encode (commandOf m v) = BitVec.ofNat 32 (m.opcode * 2 ^ 28 + v) := by
  rw [← encode_commandOf_toNat h, BitVec.ofNat_toNat, BitVec.setWidth_eq]

/-- The same for a list of operands. -/
theorem encode_commandOf_map {m : Mnemonic} {vs : List Nat} (h : ∀ v ∈ vs, v < 2 ^ m.immBits) :
    (vs.map (commandOf m)).map encode = vs.map fun v => BitVec.ofNat 32 (m.opcode * 2 ^ 28 + v) := by
  rw [List.map_map]
  exact List.map_congr_left fun v hv => encode_commandOf (h v hv)

/-- A line whose check is `p` and whose words, where it is accepted, are `ws`. -/
theorem assemble_eq_ite_words {l : AsmLine} {p : Prop} [Decidable p] {ws : List Word32}
    (hwf : l.wf = true ↔ p) (hws : p → lineWords l = ws) :
    assemble l = if p then some ws else none := by
  rw [assemble_eq_ite hwf]
  split
  · rw [hws ‹_›]
  · rfl

/-- A mnemonic of format N emits its one word and refuses an operand. -/
theorem assemble_noOperand {m : Mnemonic} (h : m.format = .n) (operand : Option Nat) :
    assemble (.command m operand) =
      if operand = none then some [encode (commandOf m 0)] else none := by
  refine assemble_eq_ite_words ?_ ?_
  · cases operand <;> simp [AsmLine.wf, Format.operandOk, h]
  · rintro rfl
    rfl

/-- Another mnemonic refuses to stand without one. -/
theorem assemble_operand_none {m : Mnemonic} (h : m.format ≠ .n) :
    assemble (.command m none) = none :=
  assemble_of_not_wf (by simpa [AsmLine.wf, Format.operandOk] using h)

/-- With an operand it emits its opcode plus the operand, if that is in range. -/
theorem assemble_operand_some {m : Mnemonic} (h : m.format ≠ .n) (v : Nat) :
    assemble (.command m (some v)) =
      if v < 2 ^ m.immBits then some [BitVec.ofNat 32 (m.opcode * 2 ^ 28 + v)] else none := by
  refine assemble_eq_ite_words ?_ fun hv => ?_
  · simp [AsmLine.wf, Format.operandOk, h, Mnemonic.immBits]
  · exact congrArg (fun w => [w]) (encode_commandOf hv)

/-- The words of listed bytes are STAGE words in their order. -/
theorem stageCommands_words {bs : List Nat} (h : ∀ b ∈ bs, b < 256) :
    (stageCommands bs).map encode = bs.map fun b => BitVec.ofNat 32 (0x70000000 + b) :=
  encode_commandOf_map (m := .stage) h

/-- STAGEN emits the STAGE words, and refuses an empty list. -/
theorem assemble_stageN (bs : List Nat) :
    assemble (.stageN bs) =
      if 1 ≤ bs.length ∧ ∀ b ∈ bs, b < 256 then
        some (bs.map fun b => BitVec.ofNat 32 (0x70000000 + b))
      else none :=
  assemble_eq_ite_words (by simp [AsmLine.wf, allBytes_iff]) fun h => stageCommands_words h.2

/-- PUSHN emits the AVG_PUSH words, and refuses an empty list. -/
theorem assemble_pushN (vs : List Nat) :
    assemble (.pushN vs) =
      if 1 ≤ vs.length ∧ ∀ v ∈ vs, v < 65536 then
        some (vs.map fun v => BitVec.ofNat 32 (0x40000000 + v))
      else none :=
  assemble_eq_ite_words (by simp [AsmLine.wf]) fun h => encode_commandOf_map (m := .avgPush) h.2

/-- A line that stages at most 32 bytes and then runs the command `i`: FEED or FEEDT. -/
theorem assemble_stage_then {l : AsmLine} {bs : List Nat} {i : Instr}
    (hwf : l.wf = (decide (bs.length ≤ 32) && allBytes bs))
    (hws : lineWords l = (stageCommands bs ++ [i]).map encode) :
    assemble l =
      if bs.length ≤ 32 ∧ ∀ b ∈ bs, b < 256 then
        some ((bs.map fun b => BitVec.ofNat 32 (0x70000000 + b)) ++ [encode i])
      else none := by
  refine assemble_eq_ite_words (by simp [hwf, allBytes_iff]) fun h => ?_
  rw [hws, List.map_append, stageCommands_words h.2, List.map_singleton]

/-- The words of an accepted line decode in order to its commands. -/
theorem decode_assemble {l : AsmLine} {ws : List Word32} (h : assemble l = some ws)
    (hraw : ∀ w, l ≠ .rawWord w) : ws.map decode = (lineCommands l).map .ok := by
  obtain ⟨-, hws⟩ := Option.ite_none_right_eq_some.mp h
  cases hws
  rw [lineWords_eq hraw, List.map_map]
  exact List.map_congr_left fun i _ => decodeOfEncodeIsTheCommand i

/-- Settles O57: one lemma for each kind of line. -/
theorem assembledLinesDecodeToTheirCommands : Obligations.AssembledLinesDecodeToTheirCommands :=
  ⟨fun _ _ => decode_assemble, rfl,
    fun _ => assemble_eq_ite_words decide_eq_true_iff fun _ => rfl,
    fun operand =>
      ⟨assemble_noOperand rfl operand, assemble_noOperand rfl operand,
        assemble_noOperand rfl operand, assemble_noOperand rfl operand,
        assemble_noOperand rfl operand⟩,
    assemble_operand_none (by decide), assemble_operand_none (by decide),
    assemble_operand_none (by decide), assemble_operand_none (by decide),
    assemble_operand_some (m := .stage) (by decide),
    assemble_operand_some (m := .avgPush) (by decide),
    assemble_operand_some (m := .aqiMap) (by decide),
    assemble_operand_some (m := .colorMap) (by decide),
    assemble_stageN, fun _ => assemble_stage_then (i := .ingest) rfl rfl,
    fun _ => assemble_stage_then (i := .tick) rfl rfl, assemble_pushN⟩

/-! ### The effect of FEED and FEEDT (R87, R105) -/

/-- The word of a command is accepted as that command. -/
theorem acceptWord_encode (i : Instr) (s : State) : acceptWord (encode i) s = exec i s :=
  acceptWord_of_ok (decodeOfEncodeIsTheCommand i) s

/-- A run of one word is its acceptance. -/
theorem runWords_singleton (w : Word32) (s : State) : runWords [w] s = acceptWord w s := by
  obtain ⟨t, ht⟩ := acceptWord_next w s
  rw [runWords_cons_of_next ht, ht, runWords]

/-- STAGE appends its byte where `CHUNK` has room (R100). -/
theorem exec_stage_of_room {s : State} (b : Byte) (h : s.chunk.length < 32) :
    exec (.stage b) s = .next (s.setChunk (s.chunk ++ [b])) := by
  rw [exec_stage]
  exact congrArg _ (if_pos h)

/-- STAGE words append their bytes in order where `CHUNK` has room for all. -/
theorem runWords_stageCommands (bs : List Nat) (ws : List Word32) (s : State)
    (h : s.chunk.length + bs.length ≤ 32) :
    runWords ((stageCommands bs).map encode ++ ws) s =
      runWords ws (s.setChunk (s.chunk ++ bs.map (BitVec.ofNat 8))) := by
  induction bs generalizing s with
  | nil => simp [stageCommands]
  | cons b bs ih =>
    rw [List.length_cons] at h
    have hfirst : acceptWord (encode (.stage (BitVec.ofNat 8 b))) s =
        .next (s.setChunk (s.chunk ++ [BitVec.ofNat 8 b])) := by
      rw [acceptWord_encode, exec_stage_of_room _ (by omega)]
    have hroom : (s.chunk ++ [BitVec.ofNat 8 b]).length + bs.length ≤ 32 := by
      rw [List.length_append, List.length_singleton]
      omega
    have hrest := ih (s.setChunk (s.chunk ++ [BitVec.ofNat 8 b])) hroom
    rw [State.setChunk_chunk, State.setChunk_setChunk, List.append_assoc] at hrest
    exact (runWords_cons_of_next hfirst _).trans hrest

/-- With `CHUNK` empty, staging at most 32 bytes and then running `i` is `i` with those bytes staged. -/
theorem runWords_stage_then {bs : List Nat} {s : State} (i : Instr) (hlen : bs.length ≤ 32)
    (hchunk : s.chunk = []) :
    runWords ((stageCommands bs ++ [i]).map encode) s =
      exec i (s.setChunk (bs.map (BitVec.ofNat 8))) := by
  have hroom : s.chunk.length + bs.length ≤ 32 := by rwa [hchunk, List.length_nil, Nat.zero_add]
  rw [List.map_append, runWords_stageCommands bs _ s hroom, List.map_singleton, runWords_singleton,
    acceptWord_encode, hchunk, List.nil_append]

/-- Settles O56: FEED and FEEDT stage the bytes and then run INGEST or TICK; their check has the limit. -/
theorem feedIsOneIngestOfTheListedBytes : Obligations.FeedIsOneIngestOfTheListedBytes := by
  refine ⟨fun bs s hlen hbytes hchunk => ?_, fun bs hlong => ?_⟩
  · have hwf : (decide (bs.length ≤ 32) && allBytes bs) = true := by
      simp [hlen, (allBytes_iff bs).mpr hbytes]
    exact ⟨_, _, assemble_of_wf hwf, assemble_of_wf hwf, runWords_stage_then .ingest hlen hchunk,
      runWords_stage_then .tick hlen hchunk⟩
  · have hwf : (decide (bs.length ≤ 32) && allBytes bs) = false := by
      simp [Nat.not_le.mpr hlong]
    exact ⟨assemble_of_not_wf hwf, assemble_of_not_wf hwf⟩

end Sys2Proof.Machine
end

section
/-! The sync family: STAGE (R100), what INGEST leaves in `BUF` and `ING_OUT` (R102, R104 to R106), and
what its outcome says (R107, R108). -/

namespace Sys2Proof

/-! ### The words of a command (R83) -/

/-- The only word of a command is its encoding. -/
theorem decode_eq_ok_iff (w : Word32) (i : Instr) : decode w = .ok i ↔ w = encode i := by
  constructor
  · exact fun h => (legalWordIsTheEncodingOfItsCommand w i h).symm
  · rintro rfl
    exact decodeOfEncodeIsTheCommand i

/-- The word of STAGE as a sum: the byte meets no bit of the opcode. -/
theorem encode_stage (b : Byte) : encode (.stage b) = 0x70000000#32 + b.setWidth 32 := by
  have hb : b.toNat < 2 ^ 8 := b.isLt
  apply BitVec.eq_of_toNat_eq
  rw [encode_stage_toNat, BitVec.toNat_add, BitVec.toNat_setWidth, BitVec.toNat_ofNat]
  omega

end Sys2Proof

namespace Sys2Proof.Machine

/-! ### STAGE (R100) -/

/-- STAGE loses its byte and sets `STG_OVF` where `CHUNK` is full (R100). -/
theorem exec_stage_of_full {s : State} (b : Byte) (h : 32 ≤ s.chunk.length) :
    exec (.stage b) s = .next s.setStgOvf := by
  rw [exec_stage]
  exact congrArg _ (if_neg (Nat.not_lt.mpr h))

/-- Settles O14: the word is the command's encoding, and `CHUNK` has room for the byte or is full. -/
theorem stageAppendsTheByteOrSetsOverflow : Obligations.StageAppendsTheByteOrSetsOverflow := by
  refine ⟨fun w b => ?_, fun s b => ⟨exec_stage_of_room b, exec_stage_of_full b⟩⟩
  rw [decode_eq_ok_iff, encode_stage]

/-! ### INGEST by the length of the aligned bytes (R102, R104) -/

/-- More than 200 aligned bytes are flushed. -/
theorem exec_ingest_of_overrun {s : State} (h : 200 < (alignBytes (s.buf ++ s.chunk)).length) :
    exec .ingest s = .next (((s.setChunk []).setBuf []).setIngOut .capOverrun) := by
  rw [exec_ingest, ingestPhase_eq_ite, if_pos h]

/-- Fewer than 32 aligned bytes are kept and are too few for a frame. -/
theorem exec_ingest_of_short {s : State} (h : (alignBytes (s.buf ++ s.chunk)).length < 32) :
    exec .ingest s =
      .next (((s.setChunk []).setBuf (alignBytes (s.buf ++ s.chunk))).setIngOut .insufficient) := by
  rw [exec_ingest, ingestPhase_eq_ite, if_neg (by omega), if_pos h]

/-- From 32 to 200 aligned bytes are kept and ready for the decoder. -/
theorem exec_ingest_of_ready {s : State} (hlong : 32 ≤ (alignBytes (s.buf ++ s.chunk)).length)
    (hcap : (alignBytes (s.buf ++ s.chunk)).length ≤ 200) :
    exec .ingest s =
      .next (((s.setChunk []).setBuf (alignBytes (s.buf ++ s.chunk))).setIngOut .ready) := by
  rw [exec_ingest, ingestPhase_eq_ite, if_neg (Nat.not_lt.mpr hcap), if_neg (Nat.not_lt.mpr hlong)]

/-- Settles O15: one lemma for each range of the aligned length. -/
theorem ingestAppendsAlignsAndChecksTheCap : Obligations.IngestAppendsAlignsAndChecksTheCap := by
  refine ⟨fun w => decode_eq_ok_iff w .ingest, ?_⟩
  rintro s _ rfl
  exact ⟨exec_ingest_of_overrun, exec_ingest_of_short, exec_ingest_of_ready⟩

/-! ### What INGEST leaves in `BUF` and `ING_OUT` (R106, R108) -/

/-- The three outcomes of INGEST, by what its next state holds. -/
theorem ingested_cases {s t : State} (h : exec .ingest s = .next t) :
    (t.buf = [] ∧ t.ingOut = .capOverrun) ∨
      t.buf = alignBytes (s.buf ++ s.chunk) ∧
        (t.buf.length < 32 ∧ t.ingOut = .insufficient ∨
          32 ≤ t.buf.length ∧ t.buf.length ≤ 200 ∧ t.ingOut = .ready) := by
  cases h
  obtain ⟨-, ht⟩ | ⟨hshort, ht⟩ | ⟨hlong, hcap, ht⟩ := ingestPhase_cases s <;> rw [ht]
  · exact .inl ⟨rfl, rfl⟩
  · exact .inr ⟨rfl, .inl ⟨hshort, rfl⟩⟩
  · exact .inr ⟨rfl, .inr ⟨hlong, hcap, rfl⟩⟩

/-- No effect takes `BUF` over 200 bytes: INGEST applies the cap, and DECODE only shortens (R106). -/
theorem Effect.buf_length_le {i : Instr} {s : State} {f : State → State} (hf : Effect s i f)
    (h : s.buf.length ≤ 200) : (f s).buf.length ≤ 200 := by
  cases hf with
  | ingested _ _ fits | tickRejected _ _ _ fits | tickAccepted _ _ _ fits => exact fits
  | rejected _ _ fits | accepted _ _ fits => exact fits.trans h
  | restarted => exact Nat.zero_le _
  | nop | staged | overflowed | pushed | aqiMapped | colorMapped => exact h

/-- After INGEST `BUF` is within the cap. -/
theorem ingested_buf_length_le {s t : State} (h : exec .ingest s = .next t) :
    t.buf.length ≤ 200 := by
  obtain ⟨hbuf, -⟩ | ⟨-, ⟨hshort, -⟩ | ⟨-, hcap, -⟩⟩ := ingested_cases h
  · rw [hbuf]
    exact Nat.zero_le _
  · exact hshort.le.trans (by decide)
  · exact hcap

/-- After INGEST `BUF` is aligned. -/
theorem ingested_buf_aligned {s t : State} (h : exec .ingest s = .next t) :
    t.buf = [] ∨ t.buf.head? = some 0x42#8 := by
  obtain ⟨hbuf, -⟩ | ⟨hbuf, -⟩ := ingested_cases h
  · exact .inl hbuf
  · rw [hbuf]
    exact alignBytes_nil_or_head _

/-- Settles O17: INGEST leaves aligned bytes within the cap, and no effect goes over it. -/
theorem ingestLeavesAnAlignedBufferWithinTheCap :
    Obligations.IngestLeavesAnAlignedBufferWithinTheCap := by
  refine ⟨fun s t h => ⟨ingested_buf_length_le h, ingested_buf_aligned h⟩, fun i s t hs h => ?_⟩
  obtain ⟨f, hf, rfl⟩ := effect_of_exec h
  exact hf.buf_length_le hs

/-- Settles O20: only READY comes with 32 bytes in `BUF`, and those are the aligned sequence. -/
theorem readySaysThatAPrefixIsThere : Obligations.ReadySaysThatAPrefixIsThere := by
  intro s t h
  obtain ⟨hbuf, hout⟩ | ⟨hbuf, ⟨hshort, hout⟩ | ⟨hlong, -, hout⟩⟩ := ingested_cases h
  · simp [hbuf, hout]
  · simp [hout, hshort, hshort.not_ge]
  · have hhead : t.buf.head? = some 0x42#8 := by
      refine (ingested_buf_aligned h).resolve_left fun hnil => ?_
      rw [hnil] at hlong
      exact absurd hlong (by decide)
    exact ⟨iff_of_true hout ⟨hlong, hhead⟩, fun _ => hbuf, by simp [hout]⟩

/-! ### The cap and the chunk boundaries (R105) -/

/-- With the header byte in front of `BUF`, appended bytes that take it over the cap flush it. -/
theorem exec_ingest_setChunk_of_overrun {s : State} {bs : List Byte}
    (hhead : s.buf.head? = some 0x42#8) (hlen : 200 < s.buf.length + bs.length) :
    exec .ingest (s.setChunk bs) = .next (((s.setChunk []).setBuf []).setIngOut .capOverrun) := by
  have haligned : alignBytes (s.buf ++ bs) = s.buf ++ bs :=
    alignBytes_of_head (by rw [List.head?_append, hhead, Option.some_or])
  refine exec_ingest_of_overrun (s := s.setChunk bs) ?_
  rw [State.setChunk_buf, State.setChunk_chunk, haligned, List.length_append]
  exact hlen

/-- Settles O18: 222 bytes are flushed, and so are 201; 21 bytes behind an empty `BUF` are kept. -/
theorem capIsCheckedOncePerChunk : Obligations.CapIsCheckedOncePerChunk := by
  intro s x y hbuf hhead hx hy
  have hy' : (alignBytes y).length ≤ 21 := hy ▸ alignBytes_length_le y
  refine ⟨?_, ?_, ?_⟩
  · exact exec_ingest_setChunk_of_overrun hhead (by rw [List.length_append]; omega)
  · exact exec_ingest_setChunk_of_overrun hhead (by omega)
  · exact exec_ingest_of_short (Nat.lt_of_le_of_lt hy' (by decide))

/-! ### INGEST of an empty chunk (R107) -/

/-- With an empty chunk, at most 200 bytes are aligned and kept, and the outcome is that of their
length. -/
theorem exec_ingest_of_chunk_nil {s : State} (hchunk : s.chunk = []) (hlen : s.buf.length ≤ 200) :
    exec .ingest s =
      .next ((s.setBuf (alignBytes s.buf)).setIngOut
        (if (alignBytes s.buf).length < 32 then .insufficient else .ready)) := by
  have happend : s.buf ++ s.chunk = s.buf := by rw [hchunk, List.append_nil]
  have hself : s.setChunk [] = s := by rw [← hchunk, State.setChunk_self]
  have hcap : (alignBytes s.buf).length ≤ 200 := (alignBytes_length_le s.buf).trans hlen
  split
  case isTrue hshort =>
    rw [exec_ingest_of_short (by rwa [happend]), happend, hself]
  case isFalse hlong =>
    rw [exec_ingest_of_ready (by rw [happend]; omega) (by rwa [happend]), happend, hself]

/-- Settles O19: aligning again changes nothing in bytes that are aligned already. -/
theorem emptyIngestOfAnAlignedBufferOnlyWritesTheOutcome :
    Obligations.EmptyIngestOfAnAlignedBufferOnlyWritesTheOutcome := by
  intro s hchunk hlen
  have hing := exec_ingest_of_chunk_nil hchunk hlen
  refine ⟨hing, fun haligned => ?_⟩
  have hkept : alignBytes s.buf = s.buf := by
    obtain hnil | hhead := haligned
    · rw [hnil, alignBytes_nil]
    · exact alignBytes_of_head hhead
  rwa [hkept, State.setBuf_self] at hing

end Sys2Proof.Machine
end

section
/-! The frame-decode family: DECODE by what the candidate window holds (R120, R129), the frame with one
byte changed (R133), and TICK (R131). -/

namespace Sys2Proof.Machine

/-! ### The window at the front of the aligned bytes (R120) -/

section

variable {s : State} {w rest : List Byte}

/-- Aligned bytes that are not empty have the header byte first. -/
theorem byteAt_zero_of_aligned {bs : List Byte} (h : alignBytes bs = w ++ rest) (hw : w ≠ []) :
    byteAt w 0 = 0x42#8 := by
  obtain ⟨b, l, rfl⟩ := List.exists_cons_of_ne_nil hw
  have hhead := alignBytes_nil_or_head bs
  rw [h] at hhead
  exact Option.some.inj (hhead.resolve_left (List.cons_ne_nil b _))

/-- Bytes that begin with a window whose first byte is the header byte are aligned. -/
theorem alignBytes_window (h : byteAt w 0 = 0x42#8) : alignBytes (w ++ rest) = w ++ rest := by
  cases w with
  | nil => exact absurd h (by decide)
  | cons b l => exact alignBytes_of_head (congrArg some h)

/-- A field is a given number when its pair is. -/
theorem fieldAt_eq_iff (k : Nat) (v : Word16) : fieldAt w k = v ↔ pairValue w k = v.toNat := by
  rw [← BitVec.toNat_inj, fieldAt_toNat]

/-- The accumulator equals the checksum field exactly when the exact sum does (R126). -/
theorem byteSum_eq_iff : byteSum w = fieldAt w 30 ↔ exactSum w = pairValue w 30 := by
  rw [← BitVec.toNat_inj, byteSum_toNat, fieldAt_toNat]

/-- DECODE of 32 aligned bytes and more, its tests as tests on integers. -/
theorem decodePhase_of_window (hbuf : alignBytes s.buf = w ++ rest) (hw : w.length = 32) :
    decodePhase s =
      if byteAt w 1 ≠ 0x4D#8 then (s.setBuf (w.drop 1 ++ rest)).setDecOut .badHeader
      else if pairValue w 2 ≠ 28 then (s.setBuf []).setDecOut .badLength
      else if exactSum w ≠ pairValue w 30 then (s.setBuf []).setDecOut .checksum
      else acceptReading (((s.setBuf rest).setRecord (frameRecord w)).setDecOut .ok)
        (frameRecord w).pm25Env := by
  have hlong : ¬ (w ++ rest).length < 32 := by rw [List.length_append]; omega
  have hdrop : (w ++ rest).drop 1 = w.drop 1 ++ rest :=
    List.drop_append_of_le_length (by omega)
  rw [decodePhase_eq_ite, hbuf, if_neg hlong, List.take_left' hw, List.drop_left' hw, hdrop]
  simp only [ne_eq, fieldAt_eq_iff, byteSum_eq_iff, BitVec.reduceToNat]

/-- Fewer than 32 aligned bytes: the aligned bytes stay (R129 (1)). -/
theorem exec_decode_of_short (h : (alignBytes s.buf).length < 32) :
    exec .decode s = .next ((s.setBuf (alignBytes s.buf)).setDecOut .insufficient) := by
  rw [exec_decode, decodePhase_eq_ite, if_pos h]

/-- A wrong second header byte: one byte goes (R122). -/
theorem exec_decode_of_badHeader (hbuf : alignBytes s.buf = w ++ rest) (hw : w.length = 32)
    (hhdr : byteAt w 1 ≠ 0x4D#8) :
    exec .decode s = .next ((s.setBuf (w.drop 1 ++ rest)).setDecOut .badHeader) := by
  rw [exec_decode, decodePhase_of_window hbuf hw, if_pos hhdr]

/-- A wrong length: all bytes go (R123). -/
theorem exec_decode_of_badLength (hbuf : alignBytes s.buf = w ++ rest) (hw : w.length = 32)
    (hhdr : byteAt w 1 = 0x4D#8) (hlen : pairValue w 2 ≠ 28) :
    exec .decode s = .next ((s.setBuf []).setDecOut .badLength) := by
  rw [exec_decode, decodePhase_of_window hbuf hw, if_neg (not_not.2 hhdr), if_pos hlen]

/-- A wrong checksum: all bytes go (R126). -/
theorem exec_decode_of_badChecksum (hbuf : alignBytes s.buf = w ++ rest) (hw : w.length = 32)
    (hhdr : byteAt w 1 = 0x4D#8) (hlen : pairValue w 2 = 28) (hsum : exactSum w ≠ pairValue w 30) :
    exec .decode s = .next ((s.setBuf []).setDecOut .checksum) := by
  rw [exec_decode, decodePhase_of_window hbuf hw, if_neg (not_not.2 hhdr), if_neg (not_not.2 hlen),
    if_pos hsum]

/-- A window that passes every check: it goes, and its record enters the pipeline (R127). -/
theorem exec_decode_of_accepted (hbuf : alignBytes s.buf = w ++ rest) (hw : w.length = 32)
    (hhdr : byteAt w 1 = 0x4D#8) (hlen : pairValue w 2 = 28) (hsum : exactSum w = pairValue w 30) :
    exec .decode s = .next
      (acceptReading (((s.setBuf rest).setRecord (frameRecord w)).setDecOut .ok)
        (frameRecord w).pm25Env) := by
  rw [exec_decode, decodePhase_of_window hbuf hw, if_neg (not_not.2 hhdr), if_neg (not_not.2 hlen),
    if_neg (not_not.2 hsum)]

end

/-! ### The outcomes of DECODE (R122 to R129) -/

/-- Settles O22: the word is the command's encoding, and the availability test fails. -/
theorem decodeOfAShortBufferIsInsufficient : Obligations.DecodeOfAShortBufferIsInsufficient :=
  ⟨fun w => decode_eq_ok_iff w .decode, fun _ => exec_decode_of_short⟩

/-- Settles O23: the header is tested before all else. -/
theorem badSecondHeaderDropsOneByte : Obligations.BadSecondHeaderDropsOneByte :=
  fun _ _ _ => exec_decode_of_badHeader

/-- Settles O24: the length is tested right after the header. -/
theorem badLengthFlushesTheBuffer : Obligations.BadLengthFlushesTheBuffer :=
  fun _ _ _ => exec_decode_of_badLength

/-- The first four of the summed bytes are a part of the sum. -/
theorem firstFour_le_exactSum {w : List Byte} (h : 4 ≤ w.length) :
    (byteAt w 0).toNat + (byteAt w 1).toNat + (byteAt w 2).toNat + (byteAt w 3).toNat ≤
      exactSum w := by
  match w, h with
  | a :: b :: c :: d :: l, _ =>
    simp only [exactSum, byteAt, List.getD_cons_zero, List.getD_cons_succ, List.take_succ_cons,
      List.map_cons, List.sum_cons]
    omega

/-- A right header and a right length alone sum to 171 (R126). -/
theorem le_exactSum_of_header {w : List Byte} (hw : 4 ≤ w.length) (hA : byteAt w 0 = 0x42#8)
    (hB : byteAt w 1 = 0x4D#8) (hlen : pairValue w 2 = 28) : 171 ≤ exactSum w := by
  have hsum := firstFour_le_exactSum hw
  have hA' : (byteAt w 0).toNat = 66 := by rw [hA]; rfl
  have hB' : (byteAt w 1).toNat = 77 := by rw [hB]; rfl
  simp only [pairValue, Nat.reduceAdd] at hlen
  omega

/-- Settles O25: a field outside the bounds of the exact sum is not the exact sum. -/
theorem badChecksumFlushesTheBuffer : Obligations.BadChecksumFlushesTheBuffer := by
  intro s w rest hbuf hw hhdr hlen
  have hwrong := exec_decode_of_badChecksum hbuf hw hhdr hlen
  refine ⟨hwrong, fun hfield => hwrong ?_⟩
  have hA : byteAt w 0 = 0x42#8 := byteAt_zero_of_aligned hbuf (by rintro rfl; cases hw)
  have hlow : 171 ≤ exactSum w := le_exactSum_of_header (by omega) hA hhdr hlen
  have hhigh : exactSum w ≤ 7650 := exactSum_le w
  omega

/-- The record's fields are the pairs from offset 4 on (R124). -/
theorem frameRecord_get_toNat (w : List Byte) {k : Nat} (h : k < 13) :
    ((frameRecord w).get k).toNat = pairValue w (4 + 2 * k) := by
  have hget : (frameRecord w).get k = fieldAt w (4 + 2 * k) := by
    interval_cases k <;> rfl
  rw [hget, fieldAt_toNat]

/-- Settles O26: the record is the window's, and its field 4 is the reading that enters the pipeline. -/
theorem acceptedFrameEntersThePipeline : Obligations.AcceptedFrameEntersThePipeline := by
  intro s w rest hbuf hw hhdr hlen hsum
  exact ⟨frameRecord w, _, fun _ => frameRecord_get_toNat w, rfl,
    exec_decode_of_accepted hbuf hw hhdr hlen hsum⟩

/-! ### A well-formed frame (R132) -/

/-- The length field of a well-formed frame is 28. -/
theorem IsFrame.pairValue_length {w : List Byte} (h : IsFrame w) : pairValue w 2 = 28 := by
  obtain ⟨-, -, -, h2, h3, -⟩ := h
  simp only [pairValue, Nat.reduceAdd, h2, h3, BitVec.reduceToNat, Nat.reduceMul]

/-- DECODE accepts a well-formed frame at the front of `BUF`. -/
theorem exec_decode_of_isFrame {s : State} {w rest : List Byte} (hbuf : s.buf = w ++ rest)
    (h : IsFrame w) :
    exec .decode s = .next
      (acceptReading (((s.setBuf rest).setRecord (frameRecord w)).setDecOut .ok)
        (frameRecord w).pm25Env) := by
  have hlen : pairValue w 2 = 28 := h.pairValue_length
  obtain ⟨hw, hA, hB, -, -, hsum⟩ := h
  exact exec_decode_of_accepted (hbuf ▸ alignBytes_window hA) hw hB hlen hsum

/-- TICK is DECODE in the state that INGEST answers (R131). -/
theorem exec_tick_of_ingest {s u : State} (h : exec .ingest s = .next u) :
    exec .tick s = exec .decode u := by
  cases h
  rfl

/-- Settles O27: TICK's ingest keeps the frame where it is, with the chunk behind the rest. -/
theorem wellFormedFrameRoundTrip : Obligations.WellFormedFrameRoundTrip := by
  intro s w rest hbuf hframe
  refine ⟨⟨_, exec_decode_of_isFrame hbuf hframe, rfl, rfl, fun _ => frameRecord_get_toNat w⟩,
    fun hcap => ?_⟩
  have ⟨hw, hA, _⟩ := hframe
  have hbytes : alignBytes (s.buf ++ s.chunk) = w ++ (rest ++ s.chunk) := by
    rw [hbuf, List.append_assoc, alignBytes_window hA]
  have hlong : 32 ≤ (alignBytes (s.buf ++ s.chunk)).length := by
    rw [hbytes, List.length_append]
    omega
  have hing := exec_ingest_of_ready hlong ((alignBytes_length_le _).trans hcap)
  exact ⟨_, (exec_tick_of_ingest hing).trans (exec_decode_of_isFrame hbytes hframe), rfl, rfl, rfl,
    fun _ => frameRecord_get_toNat w⟩

/-! ### A window with one byte changed (R133) -/

section

variable {w : List Byte} {j k : Nat} {x : Byte}

/-- The changed byte. -/
theorem byteAt_set_self (hj : j < w.length) : byteAt (w.set j x) j = x := by
  rw [byteAt, List.getD_eq_getElem?_getD, List.getElem?_set_self hj, Option.getD_some]

/-- Every other byte is as it was. -/
theorem byteAt_set_of_ne (h : j ≠ k) : byteAt (w.set j x) k = byteAt w k := by
  rw [byteAt, byteAt, List.getD_eq_getElem?_getD, List.getD_eq_getElem?_getD,
    List.getElem?_set_ne h]

/-- A pair without the changed byte is as it was. -/
theorem pairValue_set_of_ne (h : j ≠ k) (h' : j ≠ k + 1) :
    pairValue (w.set j x) k = pairValue w k := by
  rw [pairValue, pairValue, byteAt_set_of_ne h, byteAt_set_of_ne h']

/-- A pair with the changed byte stands for another number. -/
theorem pairValue_set_ne (hj : j < w.length) (hx : x ≠ byteAt w j) (h : j = k ∨ j = k + 1) :
    pairValue (w.set j x) k ≠ pairValue w k := by
  have hx' : x.toNat ≠ (byteAt w j).toNat := fun he => hx (BitVec.eq_of_toNat_eq he)
  unfold pairValue
  obtain rfl | rfl := h
  · rw [byteAt_set_self hj, byteAt_set_of_ne (by omega)]
    omega
  · rw [byteAt_set_self hj, byteAt_set_of_ne (by omega)]
    omega

/-- A byte of the checksum field is not summed. -/
theorem exactSum_set_of_ge (h : 30 ≤ j) : exactSum (w.set j x) = exactSum w := by
  rw [exactSum, exactSum, List.take_set,
    List.set_eq_of_length_le ((List.length_take_le 30 w).trans h)]

/-- The exact sum with a summed byte changed: that byte, and what is before and behind it. -/
theorem exactSum_set (hj : j < w.length) (h : j < 30) (x : Byte) :
    exactSum (w.set j x) =
      (((w.take 30).map BitVec.toNat).take j).sum + x.toNat +
        (((w.take 30).map BitVec.toNat).drop (j + 1)).sum := by
  have hlt : j < ((w.take 30).map BitVec.toNat).length := by
    rw [List.length_map, List.length_take]
    omega
  rw [exactSum, List.take_set, List.map_set, List.sum_set, if_pos hlt]

/-- Changing one summed byte changes the exact sum. -/
theorem exactSum_set_ne (hj : j < w.length) (h : j < 30) (hx : x ≠ byteAt w j) :
    exactSum (w.set j x) ≠ exactSum w := by
  have hx' : x.toNat ≠ (byteAt w j).toNat := fun he => hx (BitVec.eq_of_toNat_eq he)
  have hself : w.set j (byteAt w j) = w := by
    rw [byteAt, List.getD_eq_getElem w 0 hj, List.set_getElem_self]
  have hnew := exactSum_set hj h x
  have hold := exactSum_set hj h (byteAt w j)
  rw [hself] at hold
  omega

/-- A change from offset 4 on leaves a sum and a checksum field that differ. -/
theorem IsFrame.checksum_set_ne (hw : IsFrame w) (hj : j < 32) (hx : x ≠ byteAt w j) :
    exactSum (w.set j x) ≠ pairValue (w.set j x) 30 := by
  obtain ⟨hlen, -, -, -, -, hsum⟩ := hw
  have hj' : j < w.length := hlen ▸ hj
  by_cases hlow : j < 30
  · rw [pairValue_set_of_ne (by omega) (by omega), ← hsum]
    exact exactSum_set_ne hj' hlow hx
  · rw [exactSum_set_of_ge (by omega), hsum]
    exact (pairValue_set_ne hj' hx (by omega)).symm

end

/-- DECODE depends on `BUF` through the aligned bytes only (R130). -/
theorem exec_decode_setBuf {s : State} {bs : List Byte} (h : alignBytes s.buf = alignBytes bs) :
    exec .decode s = exec .decode (s.setBuf bs) := by
  have halign : s.align = (s.setBuf bs).align := by
    rw [State.align, State.align, h, State.setBuf_buf, State.setBuf_setBuf]
  rw [exec_decode, exec_decode, decodePhase, decodePhase, halign]

/-- Settles O28: the changed byte decides which of DECODE's tests is the first to fail. -/
theorem singleByteCorruptionIsDetected : Obligations.SingleByteCorruptionIsDetected := by
  intro s w rest j x hframe hj hx hbuf
  have hlen : pairValue w 2 = 28 := hframe.pairValue_length
  have ⟨hw, hA, hB, _⟩ := hframe
  have hw' : (w.set j x).length = 32 := by rw [List.length_set, hw]
  have haligned (h0 : j ≠ 0) : alignBytes s.buf = w.set j x ++ rest := by
    rw [hbuf, alignBytes_window (by rw [byteAt_set_of_ne h0, hA])]
  have hhdr (h1 : j ≠ 1) : byteAt (w.set j x) 1 = 0x4D#8 := by rw [byteAt_set_of_ne h1, hB]
  refine ⟨fun h => ?_, fun h => ?_, ?_, ?_⟩
  · have hlen' : pairValue (w.set j x) 2 = 28 := by
      rw [pairValue_set_of_ne (by omega) (by omega), hlen]
    exact exec_decode_of_badChecksum (haligned (by omega)) hw' (hhdr (by omega)) hlen'
      (hframe.checksum_set_ne hj hx)
  · have hlen' : pairValue (w.set j x) 2 ≠ 28 := hlen ▸ pairValue_set_ne (hw ▸ hj) hx h
    exact exec_decode_of_badLength (haligned (by omega)) hw' (hhdr (by omega)) hlen'
  · rintro rfl
    have hhdr' : byteAt (w.set 1 x) 1 ≠ 0x4D#8 := by
      rwa [byteAt_set_self (hw ▸ hj), ← hB]
    have hdrop : (w.set 1 x).drop 1 = x :: w.drop 2 := by
      match w, hw with
      | _ :: _ :: _, _ => rfl
    rw [exec_decode_of_badHeader (haligned one_ne_zero) hw' hhdr', hdrop]
    rfl
  · rintro rfl
    have hcons : w.set 0 x = x :: w.drop 1 := by
      match w, hw with
      | _ :: _, _ => rfl
    have hjunk : alignBytes s.buf = alignBytes (w.drop 1 ++ rest) := by
      rw [hbuf, hcons, List.cons_append, alignBytes_junk x _ (hA ▸ hx)]
    exact exec_decode_setBuf hjunk

/-! ### TICK (R131) -/

/-- DECODE of aligned bytes too few for a frame writes `DEC_OUT` only. -/
theorem exec_decode_of_aligned_short {s : State} (haligned : alignBytes s.buf = s.buf)
    (h : s.buf.length < 32) : exec .decode s = .next (s.setDecOut .insufficient) := by
  rw [exec_decode_of_short (by rwa [haligned]), haligned, State.setBuf_self]

/-- An ingest that does not report READY leaves DECODE too few bytes. -/
theorem exec_decode_of_not_ready {s u : State} (hing : exec .ingest s = .next u)
    (h : u.ingOut ≠ .ready) : exec .decode u = .next (u.setDecOut .insufficient) := by
  obtain ⟨hbuf, -⟩ | ⟨hbuf, ⟨hshort, -⟩ | ⟨-, -, hready⟩⟩ := ingested_cases hing
  · exact exec_decode_of_aligned_short (by rw [hbuf, alignBytes_nil]) (by rw [hbuf]; decide)
  · exact exec_decode_of_aligned_short (by rw [hbuf, alignBytes_alignBytes]) hshort
  · exact absurd hready h

/-- Settles O29: each word is accepted as its command, and an ingest without READY leaves too few bytes. -/
theorem tickIsIngestThenDecode : Obligations.TickIsIngestThenDecode := by
  refine ⟨fun w => decode_eq_ok_iff w .tick, fun s => ?_⟩
  obtain ⟨u, hu⟩ := exec_next .ingest s
  obtain ⟨t, ht⟩ := exec_next .decode u
  have htick : exec .tick s = .next t := (exec_tick_of_ingest hu).trans ht
  refine ⟨u, t, hu, ht, htick, fun h => ?_, ?_, ?_⟩
  · exact Host.Outcome.next.inj (ht.symm.trans (exec_decode_of_not_ready hu h))
  · have hword : acceptWord 0x10000000#32 s = .next u := (acceptWord_encode .ingest s).trans hu
    rw [runWords_cons_of_next hword, runWords_singleton]
    exact (acceptWord_encode .decode u).trans ht
  · rw [runWords_singleton]
    exact (acceptWord_encode .tick s).trans htick

end Sys2Proof.Machine
end

section
/-! The rolling-average family: AVG_PUSH (R150), the window as a bounded queue (R151), the averager's
state and average (R153 to R155), and the most recent readings after a run of pushes (R152, R157). -/

namespace Sys2Proof

/-- The word of AVG_PUSH as a sum: the reading meets no bit of the opcode. -/
theorem encode_avgPush (v : Word16) : encode (.avgPush v) = 0x40000000#32 + v.setWidth 32 := by
  have hv : v.toNat < 2 ^ 16 := v.isLt
  apply BitVec.eq_of_toNat_eq
  rw [encode_avgPush_toNat, BitVec.toNat_add, BitVec.toNat_setWidth, BitVec.toNat_ofNat]
  omega

end Sys2Proof

namespace Sys2Proof.Machine

/-! ### AVG_PUSH (R150) -/

/-- AVG_PUSH takes its operand as a reading. -/
theorem exec_avgPush (v : Word16) (s : State) :
    exec (.avgPush v) s = .next (acceptReading s v) := rfl

/-- Settles O31: the word is the command's encoding, and a reading writes the window and the AQI
registers only. -/
theorem avgPushPushesAndUpdatesTheAqi : Obligations.AvgPushPushesAndUpdatesTheAqi := by
  refine ⟨fun w v => ?_, fun s v => ?_⟩
  · rw [decode_eq_ok_iff, encode_avgPush]
  · rw [exec_avgPush, acceptReading_eq]
    rfl

/-! ### The window as a queue (R151) -/

/-- Settles O32, from the two branches of a push, its range and its logical sequence. -/
theorem circularWindowIsABoundedQueue : Obligations.CircularWindowIsABoundedQueue :=
  fun n w v h =>
    ⟨Window.push_filling n w v, fun hfull => Window.push_full n w v (Nat.not_lt.mpr hfull.ge),
      Window.push_inRange n w v h, Window.contents_push v h⟩

/-! ### The averager's state (R154) -/

/-- A window has room for at least one reading (R8). -/
theorem windowLen_pos (b : Build) : 0 < windowLen b := by
  obtain h | h := windowLen_cases b <;> omega

/-- A window with as many entries as it can hold makes the averager FULL. -/
theorem averagerState_full {b : Build} {w : Window} (h : w.count = windowLen b) :
    averagerState b w = .full := by
  have hpos : 0 < windowLen b := windowLen_pos b
  rw [averagerState, if_neg (by omega), if_neg (by omega)]

/-- The averager's state, by the window's count and the averaging mode: one case for each state. -/
theorem averagerState_cases {b : Build} {w : Window} (h : w.count ≤ windowLen b) :
    (w.count = 0 ∧ averagerState b w = .empty) ∨
      (0 < w.count ∧ w.count < windowLen b ∧ b.reportPartial = true ∧
        averagerState b w = .filling) ∨
      (0 < w.count ∧ w.count < windowLen b ∧ b.reportPartial = false ∧
        averagerState b w = .calculating) ∨
      (w.count = windowLen b ∧ averagerState b w = .full) := by
  by_cases hzero : w.count = 0
  · exact .inl ⟨hzero, by rw [averagerState, if_pos hzero]⟩
  by_cases hroom : w.count < windowLen b
  · cases hmode : b.reportPartial
    · exact .inr (.inr (.inl ⟨by omega, hroom, rfl, by simp [averagerState, hzero, hroom, hmode]⟩))
    · exact .inr (.inl ⟨by omega, hroom, rfl, by simp [averagerState, hzero, hroom, hmode]⟩)
  · have hfull : w.count = windowLen b := by omega
    exact .inr (.inr (.inr ⟨hfull, averagerState_full hfull⟩))

/-- Settles O34: in each of the four cases one state holds, with its condition on count and mode. -/
theorem averagerStateFollowsTheCount : Obligations.AveragerStateFollowsTheCount := by
  intro s h
  have hpos : 0 < windowLen s.build := windowLen_pos s.build
  unfold avgState
  obtain ⟨hcount, hstate⟩ | ⟨hsome, hroom, hmode, hstate⟩ | ⟨hsome, hroom, hmode, hstate⟩ |
    ⟨hcount, hstate⟩ := averagerState_cases h
  · simp [hstate, hcount, hpos.ne, AvgState.code]
  · simp [hstate, hsome, hsome.ne', hroom, hroom.ne, hmode, AvgState.code]
  · simp [hstate, hsome, hsome.ne', hroom, hroom.ne, hmode, AvgState.code]
  · simp [hstate, hcount, hpos.ne', AvgState.code]

/-! ### The sum and the average (R153, R155) -/

/-- The sum of the window is at most 65535 for each entry. -/
theorem windowSum_le (b : Build) (w : Window) : windowSum b w ≤ w.count * 65535 := by
  rw [← Window.contents_length (windowLen b) w]
  exact sum_readings_le _

/-- Ten times the mean of 16-bit readings is at most 655350. -/
theorem windowMean_le (b : Build) (w : Window) : 10 * windowSum b w / w.count ≤ 655350 := by
  have hsum : windowSum b w ≤ w.count * 65535 := windowSum_le b w
  exact Nat.div_le_of_le_mul (by omega)

/-- A reported average is the truncated mean: its 20 bits hold it. -/
theorem averageX10_toNat_of_reported {b : Build} {w : Window}
    (h : (averagerState b w).reported = true) :
    (averageX10 b w).toNat = 10 * windowSum b w / w.count := by
  have hle : 10 * windowSum b w / w.count ≤ 655350 := windowMean_le b w
  rw [averageX10, if_pos h, BitVec.toNat_ofNat]
  exact Nat.mod_eq_of_lt (by omega)

/-- Where no average is reported, `AVG_X10` is 0. -/
theorem averageX10_of_not_reported {b : Build} {w : Window}
    (h : (averagerState b w).reported = false) : averageX10 b w = 0 := by
  rw [averageX10, if_neg (by simp [h])]

/-- `AVG_X10` is at most 655350, reported or not. -/
theorem averageX10_le (b : Build) (w : Window) : (averageX10 b w).toNat ≤ 655350 := by
  cases h : (averagerState b w).reported
  · rw [averageX10_of_not_reported h]
    exact Nat.zero_le _
  · rw [averageX10_toNat_of_reported h]
    exact windowMean_le b w

/-- Settles O35: at most 30 readings of 16 bits bound the sum, and the average is reported or 0. -/
theorem averageIsTheTruncatedMean : Obligations.AverageIsTheTruncatedMean := by
  intro s hcount
  refine ⟨rfl, ?_, fun h => ?_, fun h => ?_, averageX10_le s.build s.window⟩
  · have hsum : avgSum s ≤ s.window.count * 65535 := windowSum_le s.build s.window
    obtain hlen | hlen := windowLen_cases s.build <;> omega
  · exact averageX10_toNat_of_reported ((AvgState.reported_iff _).mpr h)
  · have hrep : (avgState s).reported = false := by
      obtain h | h := h <;> rw [h] <;> rfl
    exact congrArg BitVec.toNat (averageX10_of_not_reported hrep)

/-! ### The most recent readings (R152, R157)

`l.rtake n` is the last `n` entries of `l`, or all of them where it has fewer. -/

/-- Entries older than the last `n` do not come back into the last `n`. -/
theorem rtake_rtake_append {α : Type} (n : Nat) (l m : List α) :
    (l.rtake n ++ m).rtake n = (l ++ m).rtake n := by
  simp only [List.rtake_eq_reverse_take_reverse, List.reverse_append, List.reverse_reverse,
    List.take_append, List.take_take]
  rw [Nat.min_eq_left (Nat.sub_le n _)]

/-- The last `n` entries, where the second part alone has as many. -/
theorem rtake_append_of_le_length {α : Type} {n : Nat} (l : List α) {m : List α}
    (h : n ≤ m.length) : (l ++ m).rtake n = m.rtake n := by
  simp only [List.rtake_eq_reverse_take_reverse, List.reverse_append]
  rw [List.take_append_of_le_length (by rwa [List.length_reverse])]

/-- A push keeps the last `n` entries of the logical sequence with the reading appended. -/
theorem Window.contents_push_eq_rtake {n : Nat} {w : Window} (v : Word16) (h : w.InRange n) :
    (w.push n v).contents n = (w.contents n ++ [v]).rtake n := by
  have hlen : (w.contents n ++ [v]).length ≤ n + 1 := by
    obtain ⟨-, -, hcount⟩ := h
    rw [List.length_append, Window.contents_length]
    exact Nat.succ_le_succ hcount
  rw [Window.contents_push v h, List.rtake]
  split
  · have hone : (w.contents n ++ [v]).length - n = 1 := by omega
    rw [hone]
  · have hzero : (w.contents n ++ [v]).length - n = 0 := by omega
    rw [hzero, List.drop_zero]

/-- A run of AVG_PUSH words leaves in the window the last `WINDOW_N` of what it held and the readings
pushed. -/
theorem runWords_avgPush (vs : List Word16) {s : State} (h : s.window.InRange (windowLen s.build)) :
    ∃ t, runWords (vs.map fun v => encode (.avgPush v)) s = .next t ∧ t.build = s.build ∧
      win t = (win s ++ vs).rtake (windowLen s.build) := by
  induction vs generalizing s with
  | nil =>
    have hall : (win s).length - windowLen s.build = 0 := by
      obtain ⟨-, -, hcount⟩ := h
      rw [win, Window.contents_length]
      omega
    exact ⟨s, rfl, rfl, by rw [List.append_nil, List.rtake, hall, List.drop_zero]⟩
  | cons v vs ih =>
    have hword : acceptWord (encode (.avgPush v)) s = .next (acceptReading s v) := by
      rw [acceptWord_encode, exec_avgPush]
    have hwin : win (acceptReading s v) = (win s ++ [v]).rtake (windowLen s.build) :=
      Window.contents_push_eq_rtake v h
    obtain ⟨t, hrun, hbuild, ht⟩ := ih (s := acceptReading s v) (Window.push_inRange _ _ v h)
    refine ⟨t, (runWords_cons_of_next hword _).trans hrun, hbuild, ?_⟩
    rw [ht, hwin, acceptReading_build, rtake_rtake_append, List.append_assoc, List.singleton_append]

/-- Settles O33: what the window held before is out, so it is full of the readings pushed last. -/
theorem windowHoldsTheMostRecentReadings : Obligations.WindowHoldsTheMostRecentReadings := by
  intro s vs hrange hlen
  obtain ⟨t, hrun, hbuild, hwin⟩ := runWords_avgPush vs hrange
  have hlast : win t = vs.rtake (windowLen s.build) := by
    rw [hwin, rtake_append_of_le_length _ hlen]
  have hcount : t.window.count = windowLen s.build := by
    rw [← Window.contents_length (windowLen t.build) t.window, ← win, hlast, List.rtake,
      List.length_drop]
    omega
  have hfull : avgState t = .full := averagerState_full (by rw [hcount, hbuild])
  refine ⟨t, hrun, hlast, hfull, ?_⟩
  calc (avgX10 t).toNat
      = 10 * ((win t).map BitVec.toNat).sum / t.window.count :=
        averageX10_toNat_of_reported ((AvgState.reported_iff _).mpr (.inr hfull))
    _ = _ := by rw [hlast, hcount, List.rtake]

end Sys2Proof.Machine
end

section
/-! The AQI mapper family: the scans of the band table (R171, R175), interpolation (R172), the two
lookup commands (R173, R177), the pipeline's update (R176), and what every step keeps of the displayed
values (R29, R180). -/

namespace Sys2Proof

/-! ### The words of the two lookup commands (R83) -/

/-- An encoding whose number is an opcode's part plus the operand is a sum of words too. -/
theorem encode_eq_add {i : Instr} {p n : Nat} {v : BitVec n} (h : (encode i).toNat = p + v.toNat) :
    encode i = BitVec.ofNat 32 p + v.setWidth 32 := by
  have hlt : (encode i).toNat < 2 ^ 32 := (encode i).isLt
  apply BitVec.eq_of_toNat_eq
  rw [BitVec.toNat_add, BitVec.toNat_ofNat, BitVec.toNat_setWidth, h]
  omega

theorem encode_aqiMap (c : Conc) : encode (.aqiMap c) = 0x50000000#32 + c.setWidth 32 :=
  encode_eq_add (encode_aqiMap_toNat c)

theorem encode_colorMap (a : Score) : encode (.colorMap a) = 0x60000000#32 + a.setWidth 32 :=
  encode_eq_add (encode_colorMap_toNat a)

end Sys2Proof

namespace Sys2Proof.Machine

/-! ### A scan of the six rows (R171, R175) -/

@[simp] theorem bandCodeOf_eq_band {o : Option AqiBand} {k : AqiBand} :
    bandCodeOf o = .band k ↔ o = some k := by
  cases o <;> simp [bandCodeOf]

@[simp] theorem bandCodeOf_eq_error {o : Option AqiBand} : bandCodeOf o = .error ↔ o = none := by
  cases o <;> simp [bandCodeOf]

@[simp] theorem rowHoldsConc_iff (r : BandRow) (c : Nat) :
    rowHoldsConc r c = true ↔ r.cLo ≤ c ∧ c ≤ r.cHi := by
  simp [rowHoldsConc]

@[simp] theorem rowHoldsScore_iff (r : BandRow) (a : Nat) :
    rowHoldsScore r a = true ↔ r.iLo ≤ a ∧ a ≤ r.iHi := by
  simp [rowHoldsScore]

/-- The scan reaches every band. -/
theorem mem_allBands (k : AqiBand) : k ∈ allBands := by
  cases k <;> decide

section

variable (holds : AqiBand → Bool)

/-- A scan answers the band whose row holds the value where no earlier row does. -/
theorem scan_eq_some_iff (k : AqiBand) :
    allBands.find? holds = some k ↔
      ∃ earlier later, allBands = earlier ++ k :: later ∧ holds k = true ∧
        ∀ j ∈ earlier, ¬holds j = true := by
  rw [List.find?_eq_some_iff_append]
  constructor
  · rintro ⟨hk, earlier, later, hsplit, hearlier⟩
    exact ⟨earlier, later, hsplit, hk, by simpa using hearlier⟩
  · rintro ⟨earlier, later, hsplit, hk, hearlier⟩
    exact ⟨hk, earlier, later, hsplit, by simpa using hearlier⟩

/-- A scan answers none where no row holds the value. -/
theorem scan_eq_none_iff : allBands.find? holds = none ↔ ∀ j, ¬holds j = true := by
  rw [List.find?_eq_none]
  exact ⟨fun h j => h j (mem_allBands j), fun h j _ => h j⟩

end

/-! ### The bands of a concentration and of an AQI value -/

section

variable {b : Build}

theorem bandOf_eq_band_iff {c : Conc} {k : AqiBand} :
    bandOf b c = .band k ↔ findByConc b.bandTable c.toNat = some k := bandCodeOf_eq_band

theorem bandOf_eq_error_iff {c : Conc} :
    bandOf b c = .error ↔ findByConc b.bandTable c.toNat = none := bandCodeOf_eq_error

theorem bandOfAqi_eq_band_iff {a : Score} {k : AqiBand} :
    bandOfAqi b a = .band k ↔ findByScore b.bandTable a.toNat = some k := bandCodeOf_eq_band

theorem bandOfAqi_eq_error_iff {a : Score} :
    bandOfAqi b a = .error ↔ findByScore b.bandTable a.toNat = none := bandCodeOf_eq_error

/-- A concentration has a band, or its band is ERROR (R171). -/
theorem bandOf_cases (b : Build) (c : Conc) : bandOf b c = .error ∨ ∃ k, bandOf b c = .band k := by
  cases h : findByConc b.bandTable c.toNat with
  | none => exact .inl (bandOf_eq_error_iff.mpr h)
  | some k => exact .inr ⟨k, bandOf_eq_band_iff.mpr h⟩

/-- The default table ends at 500.4 µg/m³ (R170). -/
theorem findByConc_default_eq_none_iff (c : Nat) :
    findByConc Config.defaultBandTable c = none ↔ 5004 < c := by
  rw [findByConc_default]
  grind

/-- The default table ends at the score 500 (R170). -/
theorem findByScore_default_eq_none_iff (a : Nat) :
    findByScore Config.defaultBandTable a = none ↔ 500 < a := by
  rw [findByScore_default]
  grind

/-- Settles O36: the band is the result of a scan of the concentration intervals, and with the default
table the scan is a chain of bounds that ends at 5004. -/
theorem firstRowContainingTheConcentrationWins :
    Obligations.FirstRowContainingTheConcentrationWins := by
  refine fun b c => ⟨fun k => ?_, ?_, bandCodeOf_ne_none _, fun hdef => ?_⟩
  · rw [bandOf_eq_band_iff, findByConc, scan_eq_some_iff]
    simp only [rowHoldsConc_iff]
    rfl
  · rw [bandOf_eq_error_iff, findByConc, scan_eq_none_iff]
    simp only [rowHoldsConc_iff]
  · rw [bandOf_eq_error_iff, hdef, findByConc_default_eq_none_iff]

/-! ### The colour of an AQI value (R175) -/

theorem colorOf_of_band {a : Score} {k : AqiBand} (h : bandOfAqi b a = .band k) :
    colorOf b a = b.colorTable.get k := by
  rw [colorOf, bandOfAqi_eq_band_iff.mp h]

theorem colorOf_of_error {a : Score} (h : bandOfAqi b a = .error) : colorOf b a = b.colorError := by
  rw [colorOf, bandOfAqi_eq_error_iff.mp h]

/-- Settles O40: the band is the result of a scan of the AQI intervals, and the colour follows it. -/
theorem colourComesFromTheAqiIntervals : Obligations.ColourComesFromTheAqiIntervals := by
  refine fun b a => ⟨fun k => ?_, fun k => colorOf_of_band, colorOf_of_error, bandCodeOf_ne_none _,
    fun hdef => ?_⟩
  · rw [bandOfAqi_eq_band_iff, findByScore, scan_eq_some_iff]
    simp only [rowHoldsScore_iff]
    rfl
  · rw [bandOfAqi_eq_error_iff, hdef, findByScore_default_eq_none_iff]

/-! ### Interpolation (R172) -/

section

variable {c : Conc} {k : AqiBand}

/-- The AQI of a concentration with a band is the interpolation in that band's row. -/
theorem aqiOf_val_of_band (h : bandOf b c = .band k) :
    (aqiOf b c).1 = BitVec.ofNat 10 (interpolate (b.bandTable.get k) c.toNat) := by
  rw [aqiOf, bandOf_eq_band_iff.mp h]

/-- The AQI intervals of the default table lie within 0 to 500 (R170). -/
theorem default_iHi_le (k : AqiBand) : (Config.defaultBandTable.get k).iHi ≤ 500 := by
  cases k <;> decide

/-- With the default table no AQI is cut, so it lies in the AQI interval of its band's row. -/
theorem aqiOf_val_bounds (hdef : b.bandTable = Config.defaultBandTable)
    (h : bandOf b c = .band k) :
    (b.bandTable.get k).iLo ≤ (aqiOf b c).1.toNat ∧
      (aqiOf b c).1.toNat ≤ (b.bandTable.get k).iHi := by
  obtain ⟨hcLo, hcHi⟩ := findByConc_some (bandOf_eq_band_iff.mp h)
  obtain ⟨hlo, hhi⟩ := interpolate_bounds (b.bandTable.get k) c.toNat hcLo hcHi
  have htop : (b.bandTable.get k).iHi ≤ 500 := hdef ▸ default_iHi_le k
  have huncut : (aqiOf b c).1.toNat = interpolate (b.bandTable.get k) c.toNat := by
    rw [aqiOf_val_of_band h, BitVec.toNat_ofNat]
    exact Nat.mod_eq_of_lt (by omega)
  rw [huncut]
  exact ⟨hlo, hhi⟩

/-- With the default table an AQI that comes without ERROR is at most 500 (R172). -/
theorem aqiOf_val_le (hdef : b.bandTable = Config.defaultBandTable) (h : bandOf b c = .band k) :
    (aqiOf b c).1.toNat ≤ 500 :=
  (aqiOf_val_bounds hdef h).2.trans (hdef ▸ default_iHi_le k)

/-- The AQI intervals of the default table share no value, so the scan finds the row that holds it. -/
theorem findByScore_default_of_holds {a : Nat}
    (hlo : (Config.defaultBandTable.get k).iLo ≤ a) (hhi : a ≤ (Config.defaultBandTable.get k).iHi) :
    findByScore Config.defaultBandTable a = some k := by
  rw [findByScore_default]
  cases k <;> simp only [PerBand.get, Config.defaultBandTable] at hlo hhi <;> grind

/-- With the default table the band of the AQI of a concentration is the concentration's band (R180). -/
theorem bandOfAqi_aqiOf (hdef : b.bandTable = Config.defaultBandTable) (h : bandOf b c = .band k) :
    bandOfAqi b (aqiOf b c).1 = .band k := by
  obtain ⟨hlo, hhi⟩ := aqiOf_val_bounds hdef h
  rw [hdef] at hlo hhi
  rw [bandOfAqi_eq_band_iff, hdef]
  exact findByScore_default_of_holds hlo hhi

/-- With the default table the colour of the AQI of a concentration is that of its band (R180). -/
theorem colorOf_aqiOf (hdef : b.bandTable = Config.defaultBandTable) (h : bandOf b c = .band k) :
    colorOf b (aqiOf b c).1 = b.colorTable.get k :=
  colorOf_of_band (bandOfAqi_aqiOf hdef h)

/-- A lookup of a concentration reads no build parameter but the band table. -/
theorem aqiOf_of_default (hdef : b.bandTable = Config.defaultBandTable) (c : Conc) :
    aqiOf b c = aqiOf Config.resetBuild c := by
  rw [aqiOf, hdef]
  rfl

theorem bandOf_of_default (hdef : b.bandTable = Config.defaultBandTable) (c : Conc) :
    bandOf b c = bandOf Config.resetBuild c := by
  rw [bandOf, hdef]
  rfl

end

end

/-- Settles O37: the AQI is the interpolation in the row of the band, which the default table bounds. -/
theorem interpolationIsExactAndFloored : Obligations.InterpolationIsExactAndFloored :=
  fun b c => ⟨aqiOf_band b c, fun _ h => ⟨aqiOf_val_of_band h, fun hdef =>
    have ⟨hlo, hhi⟩ := aqiOf_val_bounds hdef h
    ⟨hlo, hhi, aqiOf_val_le hdef h⟩⟩⟩

/-- Settles O43: the AQI lies in the AQI interval of the band, and no other interval holds it. -/
theorem colourBandIsTheConcentrationBand : Obligations.ColourBandIsTheConcentrationBand :=
  fun _ _ _ hdef h => ⟨bandOfAqi_aqiOf hdef h, colorOf_aqiOf hdef h⟩

/-- Settles O38: a lookup is that of the default build, which evaluates. -/
theorem boundaryValuesBelongToTheLowerBand : Obligations.BoundaryValuesBelongToTheLowerBand := by
  intro b hdef
  simp only [aqiOf_of_default hdef, bandOf_of_default hdef]
  decide

/-! ### The two lookup commands (R173, R177) -/

/-- Settles O39: the word is the command's encoding, and the lookup writes its three registers. -/
theorem aqiMapWritesOnlyItsThreeRegisters : Obligations.AqiMapWritesOnlyItsThreeRegisters := by
  refine ⟨fun w c => ?_, fun s c => ?_⟩
  · rw [decode_eq_ok_iff, encode_aqiMap]
  · have hexec : exec (.aqiMap c) s = .next (s.setAqiLookup (aqiOf s.build c)) := rfl
    rw [hexec, setAqiLookup_eq, aqiOf_band]
    rfl

/-- Settles O41: the word is the command's encoding, and the lookup writes its two registers. -/
theorem colorMapWritesOnlyItsTwoRegisters : Obligations.ColorMapWritesOnlyItsTwoRegisters := by
  refine ⟨fun w a => ?_, fun s a => rfl⟩
  rw [decode_eq_ok_iff, encode_colorMap]

/-! ### The pipeline's update (R176) -/

/-- The pipeline's registers for a reported average, written out. -/
theorem aqiRegsFor_eq (b : Build) (c : Conc) :
    aqiRegsFor b c =
      { valid := true
        val := (aqiOf b c).1
        err := decide (bandOf b c = .error)
        band := bandOf b c
        color := if bandOf b c = .error then b.colorError else colorOf b (aqiOf b c).1 } := by
  simp only [aqiRegsFor, aqiOf_band]
  rfl

/-- Where an average is reported, the update takes the registers of that average. -/
theorem aqiUpdate_of_reported {s : State} (h : (avgState s).reported = true) :
    aqiUpdate s = s.setAqi (aqiRegsFor s.build (avgX10 s)) :=
  congrArg s.setAqi (if_pos h)

/-- Where none is, the update changes nothing. -/
theorem aqiUpdate_of_not_reported {s : State} (h : (avgState s).reported = false) :
    aqiUpdate s = s :=
  congrArg s.setAqi (if_neg (ne_true_of_eq_false h))

/-- Settles O42: FILLING and FULL report an average, EMPTY and CALCULATING do not. -/
theorem aqiUpdateFollowsTheReportedAverage : Obligations.AqiUpdateFollowsTheReportedAverage := by
  refine fun s => ⟨fun h => ?_, fun h => ?_⟩
  · rw [aqiUpdate_of_reported ((AvgState.reported_iff _).mpr h), aqiRegsFor_eq]
    rfl
  · refine aqiUpdate_of_not_reported ?_
    obtain h | h := h <;> rw [h] <;> rfl

/-! ### The displayed values (R29, R180) -/

/-- With an AQI that comes without the error bit the score is at most 500, and the colour is that of the
band, where there is one. -/
def AqiRegs.ShowsItsBand (b : Build) (r : AqiRegs) : Prop :=
  (r.err = false → r.val.toNat ≤ 500) ∧ ∀ k, r.band = .band k → r.color = b.colorTable.get k

/-- A looked-up AQI that comes without the error bit is at most 500. -/
def LookupRegs.ScoreInRange (r : LookupRegs) : Prop := r.aqiErr = false → r.aqiVal.toNat ≤ 500

/-- What every step keeps of a chip with the default table. -/
def State.DisplayInv (s : State) : Prop :=
  s.build.bandTable = Config.defaultBandTable ∧ s.aqi.ShowsItsBand s.build ∧ s.lookup.ScoreInRange

/-- After reset no band is named, and the scores are 0. -/
theorem resetOf_showsItsBand (b : Build) : (State.resetOf b).aqi.ShowsItsBand b :=
  ⟨fun _ => Nat.zero_le _, nofun⟩

section

variable {b : Build} (hdef : b.bandTable = Config.defaultBandTable)

include hdef

/-- An AQI without ERROR is at most 500. -/
theorem aqiOf_val_le_of_ne_error {c : Conc} (h : bandOf b c ≠ .error) :
    (aqiOf b c).1.toNat ≤ 500 := by
  obtain herr | ⟨k, hk⟩ := bandOf_cases b c
  · exact absurd herr h
  · exact aqiOf_val_le hdef hk

/-- The registers of a reported average show its band. -/
theorem aqiRegsFor_showsItsBand (c : Conc) : (aqiRegsFor b c).ShowsItsBand b := by
  rw [aqiRegsFor_eq]
  refine ⟨fun herr => aqiOf_val_le_of_ne_error hdef (of_decide_eq_false herr), fun k hk => ?_⟩
  have hband : bandOf b c = .band k := hk
  have hne : bandOf b c ≠ .error := by rw [hband]; nofun
  exact (if_neg hne).trans (colorOf_aqiOf hdef hband)

/-- `aqi_update` keeps the colour that of the band. -/
theorem aqiAfter_showsItsBand (w : Window) {old : AqiRegs} (h : old.ShowsItsBand b) :
    (aqiAfter b w old).ShowsItsBand b := by
  obtain ⟨-, hnew⟩ | ⟨-, hold⟩ := aqiAfter_cases b w old
  · rw [hnew]
    exact aqiRegsFor_showsItsBand hdef _
  · rwa [hold]

/-- An AQI lookup writes no score above 500 without the error bit (R173). -/
theorem aqiLookup_scoreInRange (c : Conc) (r : LookupRegs) :
    LookupRegs.ScoreInRange
      { r with aqiVal := (aqiOf b c).1, aqiErr := (aqiOf b c).2 == .error, band := (aqiOf b c).2 } := by
  rw [aqiOf_band]
  exact fun herr => aqiOf_val_le_of_ne_error hdef (beq_eq_false_iff_ne.mp herr)

end

/-- A reading keeps the displayed values right. -/
theorem acceptReading_displayInv {s : State} (v : Word16) (h : s.DisplayInv) :
    (acceptReading s v).DisplayInv := by
  obtain ⟨hdef, haqi, hlookup⟩ := h
  exact ⟨hdef, aqiAfter_showsItsBand hdef _ haqi, hlookup⟩

/-- Every effect keeps the displayed values right: a reading, a lookup and a restart write them, the
other effects do not. -/
theorem Effect.displayInv {i : Instr} {s u : State} {f : State → State} (hf : Effect s i f)
    (h : u.DisplayInv) : (f u).DisplayInv := by
  cases hf with
  | pushed v => exact acceptReading_displayInv v h
  | accepted bs r => exact acceptReading_displayInv (s := ((u.setBuf bs).setRecord r).setDecOut .ok) _ h
  | tickAccepted bs ing r =>
    exact acceptReading_displayInv
      (s := ((((u.setChunk []).setIngOut ing).setBuf bs).setRecord r).setDecOut .ok) _ h
  | aqiMapped c =>
    obtain ⟨hdef, haqi, -⟩ := h
    exact ⟨hdef, haqi, aqiLookup_scoreInRange hdef c u.lookup⟩
  | restarted =>
    obtain ⟨hdef, -, -⟩ := h
    exact ⟨hdef, resetOf_showsItsBand u.build, fun _ => Nat.zero_le _⟩
  | _ => exact h

/-- Settles O55: what the host does at the ports and `ILL` are not displayed, and every effect keeps the
displayed values right. -/
theorem displayedColourIsThatOfTheBand : Obligations.DisplayedColourIsThatOfTheBand := by
  refine ⟨fun s t hdef ⟨hval, hmap, hcolor⟩ hstep => ?_,
    fun b => ⟨Nat.zero_le _, Nat.zero_le _, nofun⟩⟩
  obtain ⟨-, ⟨hval', hcolor'⟩, hmap'⟩ : t.DisplayInv :=
    step_keeps (P := State.DisplayInv) (fun _ _ h => h) (fun _ _ h => h) (fun _ h => h)
      (fun _ _ _ hf h => hf.displayInv h) ⟨hdef, ⟨hval, hcolor⟩, hmap⟩ hstep
  exact ⟨hval', hmap', hcolor'⟩

/-! ### The `MAP_` registers and everything else (R173, R177)

`s.setLookup r` is the state that differs from `s` in the `MAP_` registers alone. -/

/-- The change that an effect makes outside the `MAP_` registers does not depend on them. -/
theorem Effect.setLookup {i : Instr} {s u : State} {f : State → State} (hf : Effect s i f)
    (r : LookupRegs) : ∃ r', f (u.setLookup r) = (f u).setLookup r' := by
  cases hf with
  | aqiMapped | colorMapped | restarted => exact ⟨_, rfl⟩
  | _ => exact ⟨r, rfl⟩

/-- Nor does what an accepted word does, legal or not. -/
theorem acceptWord_setLookup (w : Word32) (s : State) (r : LookupRegs) :
    ∃ t r', acceptWord w s = .next t ∧ acceptWord w (s.setLookup r) = .next (t.setLookup r') := by
  cases hdec : decode w with
  | ok i =>
    obtain ⟨f, hf, hexec⟩ := exec_effect i s
    obtain ⟨r', heq⟩ := hf.setLookup (u := s) r
    refine ⟨f s, r', ?_, ?_⟩
    · rw [acceptWord_of_ok hdec, hexec s rfl rfl]
    · rw [acceptWord_of_ok hdec, hexec (s.setLookup r) rfl rfl, heq]
  | error e => exact ⟨s.setIll, r, acceptWord_of_error hdec s, acceptWord_of_error hdec _⟩

/-- Settles O52: both states serve the same input, and nothing served reads the `MAP_` registers. -/
theorem lookupRegistersInfluenceNothingElse : Obligations.LookupRegistersInfluenceNothingElse := by
  intro s r
  show ∃ t r', step s = .next t ∧ step (s.setLookup r) = .next (t.setLookup r')
  cases hin : s.inputs with
  | nil => exact ⟨s, r, by simp [step, hin], by simp [step, hin]⟩
  | cons p rest =>
    rw [step_of_inputs hin, step_of_inputs (s := s.setLookup r) hin]
    cases p with
    | command w => exact acceptWord_setLookup w (s.setInputs rest) r
    | resetPulse => exact ⟨_, _, rfl, rfl⟩
    | readAddr a => exact ⟨_, r, rfl, rfl⟩

end Sys2Proof.Machine
end

section
/-! The control family: NOP (R190), RESET (R191), the answer of every step (R193), and the register map
of the read port (R31, R194). -/

namespace Sys2Proof.Machine

/-! ### Control commands and the answer of every step (R190, R191, R193) -/

/-- Settles O10: a step, a word and a command each answer a next state, one lemma for each. -/
theorem everyStepAnswersANextState : Obligations.EveryStepAnswersANextState :=
  ⟨step_next, acceptWord_next, exec_next⟩

/-- Settles O13: the word is the command's encoding, and NOP answers the state it was given. -/
theorem nopChangesNothing : Obligations.NopChangesNothing :=
  ⟨fun w => decode_eq_ok_iff w .nop, fun _ => rfl⟩

/-- Settles O44: the word is the command's encoding; the command and the pin both answer `restart`, whose
fields are the reset values. -/
theorem resetRestoresEveryStateElement : Obligations.ResetRestoresEveryStateElement :=
  ⟨fun w => decode_eq_ok_iff w .reset, fun _ => ⟨rfl, rfl⟩⟩

/-! ### Words of the read port as numbers (R11, R31) -/

/-- STATUS as a number: each flag has a bit of its own (R32). -/
theorem statusWord_toNat (s : State) :
    (statusWord s).toNat = s.ill.toNat + 2 * s.stgOvf.toNat + 4 * s.aqi.valid.toNat := by
  unfold statusWord
  cases s.ill <;> cases s.stgOvf <;> cases s.aqi.valid <;> rfl

/-- A score with an error flag in bit 15, as a number: the score ends below the flag (R31). -/
theorem scoreWord_toNat (v : Score) (err : Bool) :
    (v.setWidth 32 ||| (flagWord err <<< 15)).toNat = v.toNat + 32768 * err.toNat := by
  have hv : v.toNat < 2 ^ 15 := lt_trans v.isLt (by decide)
  have hscore : (v.setWidth 32).toNat = v.toNat := BitVec.toNat_setWidth_of_le (by decide)
  have hflag : (flagWord err <<< 15).toNat = err.toNat <<< 15 := by cases err <;> rfl
  rw [BitVec.toNat_or, hscore, hflag, Nat.or_comm, ← Nat.shiftLeft_add_eq_or_of_lt hv,
    Nat.shiftLeft_eq]
  omega

/-- An entry of a list, 0 past its end, as a number. -/
theorem toNat_getD_zero {n : Nat} (l : List (BitVec n)) (k : Nat) :
    (l.getD k 0).toNat = (l[k]?.map BitVec.toNat).getD 0 := by
  rw [List.getD_eq_getElem?_getD]
  cases l[k]? <;> rfl

section

variable {s : State} {a : RegAddr} {n : Nat}

/-- A register that is zero-extended reads as its number. -/
theorem regRead_toNat_of_register {x : BitVec n} (hn : n ≤ 32) (h : regRead s a = x.setWidth 32) :
    (regRead s a).toNat = x.toNat := by
  rw [h, BitVec.toNat_setWidth_of_le hn]

/-- A quantity that fits in its field reads as itself. -/
theorem regRead_toNat_of_fits {v : Nat} (hn : n ≤ 32) (h : regRead s a = (BitVec.ofNat n v).setWidth 32)
    (hv : v < 2 ^ n) : (regRead s a).toNat = v := by
  rw [regRead_toNat_of_register hn h, BitVec.toNat_ofNat, Nat.mod_eq_of_lt hv]

/-- An entry of a list that is zero-extended reads as its number, or as 0 past the end. -/
theorem regRead_toNat_of_entry {l : List (BitVec n)} {k : Nat} (hn : n ≤ 32)
    (h : regRead s a = (l.getD k 0).setWidth 32) :
    (regRead s a).toNat = (l[k]?.map BitVec.toNat).getD 0 := by
  rw [regRead_toNat_of_register hn h, toNat_getD_zero]

end

/-! ### The address ranges of the register map (R31) -/

/-- An address below 1024, as a number. -/
theorem regAddr_toNat {n : Nat} (h : n < 1024) : (BitVec.ofNat 10 n : RegAddr).toNat = n :=
  Nat.mod_eq_of_lt h

/-- The four ranges: the record, the logical window, the buffer and the staged bytes. Every row of the map
before the range misses the address, and the range's own row takes it. -/
theorem regRead_ranges (s : State) :
    (∀ k, k < 13 → regRead s (BitVec.ofNat 10 (0x010 + k)) = (s.record.get k).setWidth 32) ∧
    (∀ k, k < 32 → regRead s (BitVec.ofNat 10 (0x040 + k)) = ((win s).getD k 0).setWidth 32) ∧
    (∀ k, k < 256 → regRead s (BitVec.ofNat 10 (0x100 + k)) = (s.buf.getD k 0).setWidth 32) ∧
    (∀ k, k < 32 → regRead s (BitVec.ofNat 10 (0x200 + k)) = (s.chunk.getD k 0).setWidth 32) := by
  refine ⟨fun k h => ?_, fun k h => ?_, fun k h => ?_, fun k h => ?_⟩
  all_goals
    rw [regRead, regAddr_toNat (by omega)]
    repeat rw [if_neg (by omega)]
    rw [if_pos (by omega), Nat.add_sub_cancel_left]

/-- The addresses between and above the ranges show 0 (R61). -/
theorem regRead_unmapped (s : State) {a : RegAddr}
    (h : (0x007 ≤ a.toNat ∧ a.toNat ≤ 0x00F) ∨ (0x01D ≤ a.toNat ∧ a.toNat ≤ 0x01F) ∨ a.toNat = 0x027 ∨
      (0x02C ≤ a.toNat ∧ a.toNat ≤ 0x03F) ∨ (0x060 ≤ a.toNat ∧ a.toNat ≤ 0x0FF) ∨ 0x220 ≤ a.toNat) :
    regRead s a = 0#32 := by
  rw [regRead]
  repeat rw [if_neg (by omega)]
  rfl

/-- CONFIG as a number: its fields fit in the word. -/
theorem regRead_config_toNat (s : State) :
    (regRead s 0x001#10).toNat =
      s.build.windowN.toNat + 256 * s.build.reportPartial.toNat + 65536 * 200 + 16777216 * 32 := by
  rw [regRead_config, BitVec.toNat_ofNat]
  cases s.build.windowN <;> cases s.build.reportPartial <;> rfl

/-- In range, the count and the sum of the window fit in their fields. -/
theorem Window.InRange.count_and_sum_lt {b : Build} {w : Window} (h : w.InRange (windowLen b)) :
    w.count < 2 ^ 6 ∧ windowSum b w < 2 ^ 21 := by
  obtain ⟨-, -, hcount⟩ := h
  have hsum : windowSum b w ≤ w.count * 65535 := windowSum_le b w
  obtain hlen | hlen := windowLen_cases b <;> omega

/-- Settles O47: each register is read at its address, and the bounds of the state make the three lengths
and the sum fit in their fields. -/
theorem readPortShowsTheRegisterMap : Obligations.ReadPortShowsTheRegisterMap := by
  intro s ⟨hbuf, hchunk, hwindow, _⟩
  obtain ⟨hcount, hsum⟩ := hwindow.count_and_sum_lt
  obtain ⟨record, window, buffer, staged⟩ := regRead_ranges s
  exact ⟨rfl, regRead_config_toNat s, statusWord_toNat s,
    regRead_toNat_of_register (by decide) rfl,
    regRead_toNat_of_register (by decide) rfl,
    regRead_toNat_of_fits (n := 8) (by decide) rfl (by omega),
    regRead_toNat_of_fits (n := 6) (by decide) rfl (by omega),
    fun k hk => regRead_toNat_of_register (by decide) (record k hk),
    regRead_toNat_of_fits (n := 6) (by decide) rfl hcount,
    regRead_toNat_of_fits (n := 21) (by decide) rfl hsum,
    regRead_toNat_of_register (by decide) rfl,
    regRead_toNat_of_register (by decide) rfl,
    scoreWord_toNat s.aqi.val s.aqi.err,
    regRead_toNat_of_register (by decide) rfl,
    regRead_toNat_of_register (by decide) rfl,
    scoreWord_toNat s.lookup.aqiVal s.lookup.aqiErr,
    regRead_toNat_of_register (by decide) rfl,
    regRead_toNat_of_register (by decide) rfl,
    regRead_toNat_of_register (by decide) rfl,
    fun k hk => regRead_toNat_of_entry (by decide) (window k hk),
    fun k hk => regRead_toNat_of_entry (by decide) (buffer k hk),
    fun k hk => regRead_toNat_of_entry (by decide) (staged k hk),
    fun _ => regRead_unmapped s⟩

end Sys2Proof.Machine
end

section
/-! The exceptions family: the block between commands (R211), and the read port when the host sets
`rd_addr` (R65). -/

namespace Sys2Proof.Machine

/-- Where the host does nothing, the block holds its state (R211). -/
theorem step_of_inputs_nil {s : State} (h : s.inputs = []) : step s = .next s := by
  simp only [step, h]

/-- No register depends on what the host is still going to do (R31, R67). -/
@[simp] theorem regRead_setInputs (s : State) (ps : List PortInput) (a : RegAddr) :
    regRead (s.setInputs ps) a = regRead s a := rfl

/-- The read port shows the register just addressed (R65). -/
@[simp] theorem rdData_setRdAddr (s : State) (a : RegAddr) :
    rdData (s.setRdAddr a) = regRead s a :=
  regRead_setRdAddr s a a

/-- Settles O9: with no input left there is nothing to serve; serving a read address sets `rd_addr` alone,
and no register depends on `rd_addr` or on the inputs left. -/
theorem blockHoldsItsStateBetweenCommands : Obligations.BlockHoldsItsStateBetweenCommands := by
  refine fun s => ⟨step_of_inputs_nil, fun a rest hin => ?_⟩
  have hstep : step s = .next ((s.setInputs rest).setRdAddr a) := step_of_inputs hin
  have hread : rdData ((s.setInputs rest).setRdAddr a) = regRead s a := by
    rw [rdData_setRdAddr, regRead_setInputs]
  exact ⟨_, hstep, rfl, hread⟩

end Sys2Proof.Machine
end

section
/-! The reset family: a pulse of the reset pin (R220) and the RESET command (R191). -/

namespace Sys2Proof.Machine

/-- RESET restarts the block (R191). -/
theorem exec_reset (s : State) : exec .reset s = .next s.restart := rfl

/-- The reset pin is served as the RESET command (R220). -/
theorem serve_resetPulse (s : State) : serve .resetPulse s = exec .reset s := rfl

/-- Settles O8: the step serves the pulse as RESET, and a restart keeps the inputs left (log entry 3). -/
theorem resetPinActsAsTheResetCommand : Obligations.ResetPinActsAsTheResetCommand := by
  intro s rest hin
  have hstep : step s = exec .reset (s.setInputs rest) :=
    (step_of_inputs hin).trans (serve_resetPulse _)
  have hinputs : (s.setInputs rest).restart.inputs = rest := by
    rw [restart_inputs, State.setInputs_inputs]
  exact ⟨hstep, _, hstep.trans (exec_reset _), rfl, hinputs⟩

end Sys2Proof.Machine
end
